-- ==== Sys2Proof/Word.lean ====
section
/-! DEFINITION. The word types of the block: bytes of the score, 32-bit registers and addresses, and
16-bit samples (00_scope.md R8, 20_memory.md R60, R66). -/

namespace Sys2Proof

/-- `u8`: one byte of the score address space (00_scope.md R8). -/
abbrev Byte := BitVec 8

/-- `u32`: a 32-bit register or an address of the score address space (00_scope.md R8, 20_memory.md R60). -/
abbrev Word := BitVec 32

/-- `s16`: one waveform or output sample, two's complement (20_memory.md R66, R70, R71). -/
abbrev Sample := BitVec 16

end Sys2Proof
end

