-- ==== Sys2Proof/Syntax.lean ====
section
/-! DEFINITION. The score commands, the instructions of this hardware: one constructor per row of
spec/opcode_table.json (30_encoding.md R80 to R88). -/

namespace Sys2Proof

/-- A score command with its operands at the widths of their encoding fields. NOTEON has two rows in
the table, one per value of `vol_present`, and so two constructors. The low nibble that RSVD_A,
RSVD_B, RSVD_D, RESTART and STOP ignore (R88, R111) is kept as an operand, so that no bit of an
encoding is dropped. -/
inductive Instr where
  /-- WAIT, format `W2`: a 15-bit count of milliseconds (R83, R104). -/
  | wait (ms : BitVec 15)
  /-- NOTEOFF, format `C1`: voice index (R107). -/
  | noteOff (t : BitVec 4)
  /-- NOTEON, format `C2`, the form of `vol_present = 0`: voice index, note number (R84, R106). -/
  | noteOn (t : BitVec 4) (n : BitVec 8)
  /-- NOTEON, format `C3`, the form of `vol_present = 1`: voice index, note number, velocity (R84, R106). -/
  | noteOnVel (t : BitVec 4) (n vel : BitVec 8)
  /-- RSVD_A, format `C1`: first bytes 0xA0 to 0xAF, a no-op (R87, R111). -/
  | rsvdA (x : BitVec 4)
  /-- RSVD_B, format `C1`: first bytes 0xB0 to 0xBF, a no-op (R87, R111). -/
  | rsvdB (x : BitVec 4)
  /-- INSTR, format `C2`: voice index, instrument id (R85, R108). -/
  | instr (t : BitVec 4) (id : BitVec 8)
  /-- RSVD_D, format `C1`: first bytes 0xD0 to 0xDF, a no-op (R87, R111). -/
  | rsvdD (x : BitVec 4)
  /-- RESTART, format `C1`: the low nibble is ignored (R88, R109). -/
  | restart (x : BitVec 4)
  /-- STOP, format `C1`: the low nibble is ignored (R88, R110). -/
  | stop (x : BitVec 4)
deriving DecidableEq, Repr

end Sys2Proof
end

