-- ==== Sys2Proof/WellFormed.lean ====
section
/-! DEFINITION. Which commands are well formed: the NOTEON form must be the one `vol_present` selects
(30_encoding.md R82, R84, R93), and which of them a score generator may emit (R87, R88,
70_reset_and_hazards.md R252, R255). -/

namespace Sys2Proof

/-- The command is one the decoder can read under this value of `vol_present`. Only NOTEON depends on
it: without a velocity byte when `vol_present = 0`, with one when `vol_present = 1` (R82, R84, R93).
Every other operand field is as wide as its encoding field, so every value of it is well formed. -/
def WellFormed (volPresent : Bool) : Instr → Bool
  | .noteOn _ _ => !volPresent
  | .noteOnVel _ _ _ => volPresent
  | .wait _ | .noteOff _ | .rsvdA _ | .rsvdB _ | .instr _ _ | .rsvdD _ | .restart _ | .stop _ => true

/-- What a score generator may emit: no reserved opcode (R87), the low nibble of RESTART and STOP zero
(R88), no `WAIT 0` (70_reset_and_hazards.md R255). The block itself runs every command; this is the
duty of who writes the score. -/
def Emittable : Instr → Bool
  | .rsvdA _ | .rsvdB _ | .rsvdD _ => false
  | .restart x | .stop x => x == 0
  | .wait ms => ms != 0
  | .noteOff _ | .noteOn _ _ | .noteOnVel _ _ _ | .instr _ _ => true

end Sys2Proof
end

