-- ==== Sys2Proof/Decode.lean ====
section
/-! DEFINITION. The decoder and, after it, the encoder of score commands (30_encoding.md R80 to R89). The
decoder is total: every first byte selects exactly one command (R86). The only thing a list of bytes
can be rejected for is being too short to hold the command its first byte begins. -/

namespace Sys2Proof

/-- `op = b[7:4]` (30_encoding.md R81). -/
def opOf (b : Byte) : BitVec 4 := b.extractLsb' 4 4

/-- `t = b[3:0]`, the voice index, or the nibble a command ignores (30_encoding.md R81, R88). -/
def lowNibble (b : Byte) : BitVec 4 := b.extractLsb' 0 4

/-- The class bit `b[7]`: 0 selects format `W2`, a WAIT (30_encoding.md R81). -/
def classBit (b : Byte) : Bool := b.getLsbD 7

/-- The wait count `W = (b0[6:0] << 8) | b1`, big-endian (30_encoding.md R83). -/
def waitCount (b0 b1 : Byte) : BitVec 15 := b0.extractLsb' 0 7 ++ b1

/-- The length in bytes of the command that begins with byte `b`, a function of `b` and `vol_present`
alone (30_encoding.md R82). -/
def cmdLength (volPresent : Bool) (b : Byte) : Nat :=
  if classBit b = false then 2
  else if opOf b = 0x9#4 then (if volPresent then 3 else 2)
  else if opOf b = 0xC#4 then 2
  else 1

/-- The command whose bytes are `rd 0`, `rd 1`, `rd 2`: byte 0 is looked at through `b[7]` and then
`b[7:4]` only, and an operand byte is read only by the formats that have it (30_encoding.md R80, R86;
20_memory.md R64). Total, so nothing is rejected. -/
def decodeFrom (volPresent : Bool) (rd : Nat → Byte) : Instr :=
  let b := rd 0
  if classBit b = false then .wait (waitCount b (rd 1))
  else
    let t := lowNibble b
    if opOf b = 0x8#4 then .noteOff t
    else if opOf b = 0x9#4 then
      (if volPresent then .noteOnVel t (rd 1) (rd 2) else .noteOn t (rd 1))
    else if opOf b = 0xA#4 then .rsvdA t
    else if opOf b = 0xB#4 then .rsvdB t
    else if opOf b = 0xC#4 then .instr t (rd 1)
    else if opOf b = 0xD#4 then .rsvdD t
    else if opOf b = 0xE#4 then .restart t
    else .stop t

/-- Why a list of bytes holds no command. A command in the score address space is never cut short
(20_memory.md R60), so the machine's own fetch cannot meet either. -/
inductive DecodeError where
  /-- There is no byte at all. -/
  | noBytes
  /-- The first byte begins a command of two or three bytes and fewer are there. -/
  | truncated
deriving DecidableEq, Repr

/-- The command at the front of a list of bytes, with the bytes after it. -/
def decode (volPresent : Bool) (bytes : List Byte) : Except DecodeError (Instr × List Byte) :=
  match bytes with
  | [] => .error .noBytes
  | b :: _ =>
    if bytes.length < cmdLength volPresent b then .error .truncated
    else .ok (decodeFrom volPresent (fun k => bytes.getD k 0), bytes.drop (cmdLength volPresent b))

/-- The bytes of a command, byte 0 first (30_encoding.md R80, R83 to R85). -/
def encode : Instr → List Byte
  | .wait ms => [0#1 ++ ms.extractLsb' 8 7, ms.extractLsb' 0 8]
  | .noteOff t => [0x8#4 ++ t]
  | .noteOn t n => [0x9#4 ++ t, n]
  | .noteOnVel t n vel => [0x9#4 ++ t, n, vel]
  | .rsvdA x => [0xA#4 ++ x]
  | .rsvdB x => [0xB#4 ++ x]
  | .instr t id => [0xC#4 ++ t, id]
  | .rsvdD x => [0xD#4 ++ x]
  | .restart x => [0xE#4 ++ x]
  | .stop x => [0xF#4 ++ x]

/-- Byte `k` of an instruction whose bits are `w`, bit 0 the least significant bit of byte 0, and every
bit at or above `nbits` zero (the numbering of spec/opcode_table.json). -/
def tableByte (nbits w k : Nat) : Byte := BitVec.ofNat 8 ((w % 2 ^ nbits) / 2 ^ (8 * k))

/-- The value of `vol_present` under which a table row of `nbits` bits is read: the three-byte NOTEON is
the row of `vol_present = 1`, every shorter row is read with `vol_present = 0` (30_encoding.md R82). -/
def tableVolume (nbits : Nat) : Bool := 24 ≤ nbits

/-- The instruction the decoder reads from a row of spec/opcode_table.json: `w` laid out as bytes, the
first at the lowest address, zeros above `nbits` up to the longest command. -/
def decodeTableWord (nbits w : Nat) : Option Instr :=
  match decode (tableVolume nbits) [tableByte nbits w 0, tableByte nbits w 1, tableByte nbits w 2] with
  | .ok (i, _) => some i
  | .error _ => none

end Sys2Proof
end

