-- ==== Sys2Proof/Machine/Arith.lean ====
section
/-! DEFINITION. The arithmetic primitives of 00_scope.md R9, over the mathematical integers, and the narrowing
of an integer to a register (R8). -/

namespace Sys2Proof.Machine

/-- `floor_div(a, b)` for a >= 0 and b > 0 (00_scope.md R9). -/
def floorDiv (a b : Nat) : Nat := a / b

/-- `x >>a n`: the largest integer q with q * 2^n <= x (00_scope.md R9). -/
def asr (x : Int) (n : Nat) : Int := x / 2 ^ n

/-- `clamp(x, lo, hi)` (00_scope.md R9). -/
def clamp (x lo hi : Int) : Int := if x < lo then lo else if hi < x then hi else x

/-- `sat16(x)` (00_scope.md R9). -/
def sat16 (x : Int) : Int := clamp x (-32768) 32767

/-- `clamp` on naturals, for indices and counts (00_scope.md R9). -/
def clampNat (x lo hi : Nat) : Nat := if x < lo then lo else if hi < x then hi else x

/-- `trunc32(x)` for x >= 0, as a `u32` (00_scope.md R9). -/
def trunc32 (x : Nat) : Word := BitVec.ofNat 32 x

/-- A `u32` register loaded with an integer its rule shows to fit (00_scope.md R8). In a state that no
run reaches the integer may not fit; it is then taken modulo 2^32 (log entry 8). -/
def toU32 (x : Int) : Word := BitVec.ofInt 32 x

/-- An `s32` register loaded with an integer its rule shows to fit (00_scope.md R8, 10_state.md R31). -/
def toS32 (x : Int) : Word := BitVec.ofInt 32 x

/-- An `s16` sample from an integer in its range (00_scope.md R8, 43_mixer.md R188). -/
def toSample (x : Int) : Sample := BitVec.ofInt 16 x

end Sys2Proof.Machine
end

