-- ==== Sys2Proof/Config.lean ====
section
/-! DEFINITION. The configuration of the block: build parameters (00_scope.md R4, R6), the seven read-only
tables (R5; 20_memory.md R67 to R73), their well-formedness, the values no rule gives (free values),
and the test configuration TC1 (95_test_vectors.md section 1). -/

namespace Sys2Proof

/-- One row of the table `INSTR`: a waveform reference, five segment durations in ticks and a sustain
level (20_memory.md R69). -/
structure Instrument where
  wave : BitVec 8
  delay : Word
  attack : Word
  hold : Word
  decay : Word
  sustain : Word
  release : Word
deriving DecidableEq, Repr, Inhabited

/-- One row of the table `DRUM`: the samples, the index of the final one, and the native playback
frequency in whole hertz (20_memory.md R71). -/
structure Drum where
  data : List Sample
  endIdx : BitVec 16
  freq : Word
deriving DecidableEq, Repr, Inhabited

/-- The envelope level that means full scale, 2^30 (42_envelope.md R161). -/
def envFull : Nat := 0x40000000

/-- The default `NOTE_FREQ`, notes 0 to 127 in Q16.16 hertz (20_memory.md R78). -/
def defaultNoteFreq : List Word :=
  (
   [535809, 567670, 601425, 637188, 675077, 715219, 757749, 802807] ++
   [850544, 901120, 954703, 1011473, 1071618, 1135340, 1202851, 1274376] ++
   [1350154, 1430439, 1515497, 1605613, 1701088, 1802240, 1909407, 2022946] ++
   [2143237, 2270680, 2405702, 2548752, 2700309, 2860878, 3030994, 3211227] ++
   [3402176, 3604480, 3818814, 4045892, 4286473, 4541360, 4811404, 5097505] ++
   [5400618, 5721755, 6061989, 6422453, 6804352, 7208960, 7637627, 8091784] ++
   [8572947, 9082720, 9622807, 10195009, 10801236, 11443511, 12123977, 12844906] ++
   [13608704, 14417920, 15275254, 16183568, 17145893, 18165441, 19245614, 20390018] ++
   [21602472, 22887021, 24247954, 25689813, 27217409, 28835840, 30550508, 32367136] ++
   [34291786, 36330882, 38491228, 40780036, 43204943, 45774043, 48495909, 51379626] ++
   [54434817, 57671680, 61101017, 64734272, 68583572, 72661764, 76982457, 81560072] ++
   [86409886, 91548086, 96991818, 102759252, 108869635, 115343360, 122202033, 129468544] ++
   [137167144, 145323527, 153964914, 163120144, 172819773, 183096171, 193983636, 205518503] ++
   [217739269, 230686720, 244404066, 258937088, 274334289, 290647054, 307929828, 326240288] ++
   [345639545, 366192342, 387967272, 411037006, 435478539, 461373440, 488808132, 517874176] ++
   [548668578, 581294109, 615859655, 652480576, 691279090, 732384684, 775934544, 822074013]
  ).map (BitVec.ofNat 32)

/-- The default `ATTEN` for a number of voices: 256, then floor(256 / k) (20_memory.md R68). -/
def defaultAtten (nvoices : Nat) : List Nat :=
  256 :: (List.range nvoices).map fun k => 256 / (k + 1)

/-- The parameters of 00_scope.md R4 with their defaults, and the seven tables of R5. R4 gives no default
content for `INSTR`, `WAVE`, `DRUM`, `PATCH_MAP` and `DRUM_MAP`; how many rows the first three have is
`NUM_INSTR`, `NUM_WAVES` and `NUM_DRUMS` (20_memory.md R69 to R71). -/
structure Params where
  /-- `NVOICES`: the number of voice slots that exist. -/
  nvoices : Nat := 16
  /-- `FS_HZ`: ticks per second. -/
  fsHz : Nat := 44100
  /-- `BLOCK`: samples one RENDER fills. -/
  block : Nat := 128
  noteMin : Nat := 0
  noteMax : Nat := 127
  defaultVelocity : Nat := 127
  defaultVolumePresent : Bool := false
  defaultInstrument : Nat := 0
  hdrSig0 : Byte := 0x50#8
  hdrSig1 : Byte := 0x74#8
  percussionEn : Bool := true
  envelopeEn : Bool := true
  dynamicAtten : Bool := false
  /-- `NUM_INSTR`: rows of the instrument table. -/
  numInstr : Nat := 1
  /-- `NUM_WAVES`: melodic waveforms in the waveform store. -/
  numWaves : Nat := 1
  /-- `NUM_DRUMS`: percussion waveforms. -/
  numDrums : Nat := 0
  /-- `NOTE_FREQ[NOTE_MIN]`, ..., `NOTE_FREQ[NOTE_MAX]` (R67). -/
  noteFreq : List Word := defaultNoteFreq
  /-- `ATTEN[0]`, ..., `ATTEN[NVOICES]` (R68). -/
  atten : List Nat := defaultAtten 16
  /-- `INSTR` (R69). -/
  instr : List Instrument
  /-- `WAVE`: each waveform has 256 samples (R70). -/
  wave : List (List Sample)
  /-- `DRUM` (R71). -/
  drum : List Drum
  /-- `PATCH_MAP[0]`, ..., `PATCH_MAP[127]` (R72). -/
  patchMap : List Byte
  /-- `DRUM_MAP[0]`, ..., `DRUM_MAP[127]`, 0xFF for no drum (R73). -/
  drumMap : List Byte
deriving DecidableEq, Repr

/-- Every entry is at least the one after it. -/
def nonIncreasing : List Nat → Bool
  | a :: b :: r => decide (b ≤ a) && nonIncreasing (b :: r)
  | _ => true

/-- The ranges of 00_scope.md R4. -/
def Params.rangesOk (p : Params) : Bool :=
  decide (1 ≤ p.nvoices) && decide (p.nvoices ≤ 16) &&
  decide (1 ≤ p.fsHz) && decide (p.fsHz ≤ 1048575) && decide (1 ≤ p.block) &&
  decide (p.noteMin ≤ p.noteMax) && decide (p.noteMax ≤ 127) &&
  decide (1 ≤ p.defaultVelocity) && decide (p.defaultVelocity ≤ 127) &&
  decide (p.defaultInstrument < p.numInstr) &&
  decide (1 ≤ p.numInstr) && decide (p.numInstr ≤ 256) &&
  decide (1 ≤ p.numWaves) && decide (p.numWaves ≤ 256) && decide (p.numDrums ≤ 255)

/-- Well-formedness of `NOTE_FREQ` (20_memory.md R67). -/
def Params.noteFreqOk (p : Params) : Bool :=
  decide (p.noteFreq.length = p.noteMax - p.noteMin + 1) &&
  p.noteFreq.all fun f => decide (f.toNat < p.fsHz * 65536)

/-- Well-formedness of `ATTEN` (20_memory.md R68). -/
def Params.attenOk (p : Params) : Bool :=
  decide (p.atten.length = p.nvoices + 1) &&
  p.atten.all (fun g => decide (g ≤ 256)) && nonIncreasing p.atten

/-- Well-formedness of `INSTR`, a table of `NUM_INSTR` rows (20_memory.md R69). -/
def Params.instrOk (p : Params) : Bool :=
  decide (p.instr.length = p.numInstr) &&
  p.instr.all fun i => decide (i.wave.toNat < p.numWaves) && decide (i.sustain.toNat ≤ envFull)

/-- Well-formedness of `WAVE`, `NUM_WAVES` waveforms of 256 samples (20_memory.md R70). -/
def Params.waveOk (p : Params) : Bool :=
  decide (p.wave.length = p.numWaves) && p.wave.all fun w => decide (w.length = 256)

/-- Well-formedness of `DRUM`, a table of `NUM_DRUMS` rows (20_memory.md R71). -/
def Params.drumOk (p : Params) : Bool :=
  decide (p.drum.length = p.numDrums) &&
  p.drum.all fun d => decide (d.data.length = d.endIdx.toNat + 1) && decide (1 ≤ d.endIdx.toNat) &&
    decide (d.freq.toNat < p.fsHz * 65536)

/-- Well-formedness of `PATCH_MAP` and `DRUM_MAP` (20_memory.md R72, R73). -/
def Params.mapsOk (p : Params) : Bool :=
  decide (p.patchMap.length = 128) && p.patchMap.all (fun i => decide (i.toNat < p.numInstr)) &&
  decide (p.drumMap.length = 128) &&
  p.drumMap.all (fun d => decide (d.toNat < p.numDrums) || decide (d = 0xFF#8))

/-- All well-formedness conditions of 00_scope.md R4 and 20_memory.md R67 to R73. -/
def Params.wf (p : Params) : Bool :=
  p.rangesOk && p.noteFreqOk && p.attenOk && p.instrOk && p.waveOk && p.drumOk && p.mapsOk

/-- A configuration: parameters and tables together with the proof that every condition holds. "A
configuration that breaks a well-formedness condition is not a configuration of this hardware"
(00_scope.md R5; 93_implementation_defined.md U9): it cannot be built. -/
structure Config where
  params : Params
  ok : params.wf = true
deriving DecidableEq, Repr

/-- The configuration with these parameters, or none where a condition fails (U9: refuse). -/
def Config.ofParams (p : Params) : Option Config :=
  if h : p.wf = true then some ⟨p, h⟩ else none

/-! Free values: what a table read beyond its table gives. In every state a run reaches all table reads
are inside their tables (10_state.md R42 (g), (i)), and no rule gives a value outside, so none is
chosen here (log entry 7). -/

/-- The row `INSTR[k]` for `k >= NUM_INSTR`: a free value (DESIGN CHOICE, log entry 7). -/
opaque Config.unstatedInstrument : Nat → Instrument

/-- The row `DRUM[k]` for `k >= NUM_DRUMS`: a free value (DESIGN CHOICE, log entry 7). -/
opaque Config.unstatedDrum : Nat → Drum

/-- A sample of a melodic waveform at an index beyond it, or of a waveform that does not exist: a free
value (DESIGN CHOICE, log entry 7). -/
opaque Config.unstatedSample : Nat → Nat → Sample

/-- A sample of a percussion waveform at an index beyond its final one: a free value (DESIGN CHOICE, log
entry 7). -/
opaque Config.unstatedDrumSample : Nat → Nat → Sample

/-- The gain `ATTEN[k]` for `k > NVOICES`: a free value (DESIGN CHOICE, log entry 7). -/
opaque Config.unstatedGain : Nat → Nat

/-! The test configuration TC1 (95_test_vectors.md section 1). -/

/-- `WAVE[0][i] = (i - 128) * 256`. -/
def tc1Saw : List Sample := (List.range 256).map fun i => BitVec.ofInt 16 (((i : Int) - 128) * 256)

/-- `WAVE[1][i] = 16384` for i < 128, `-16384` for i >= 128. -/
def tc1Square : List Sample := List.replicate 128 16384#16 ++ List.replicate 128 (-16384#16)

/-- The parameters of TC1: the defaults of 00_scope.md R4 and the tables of 95_test_vectors.md section 1. -/
def tc1Params : Params where
  numInstr := 2
  numWaves := 2
  numDrums := 1
  instr := [
    { wave := 0, delay := 0, attack := 4, hold := 2, decay := 4, sustain := 0x20000000#32, release := 8 },
    { wave := 1, delay := 2, attack := 0, hold := 0, decay := 0, sustain := 0x40000000#32, release := 0 }]
  wave := [tc1Saw, tc1Square]
  drum := [{ data := [0, 8000, 16000, 24000, 16000, 8000, 0, -8000#16], endIdx := 7, freq := 22050 }]
  patchMap := 0#8 :: 1#8 :: List.replicate 126 0#8
  drumMap := 0#8 :: List.replicate 127 0xFF#8

/-- TC1 meets every well-formedness condition. -/
theorem tc1Params_wf : tc1Params.wf = true := by decide +kernel

/-- The test configuration TC1 (95_test_vectors.md section 1). -/
def Config.tc1 : Config := ⟨tc1Params, tc1Params_wf⟩

end Sys2Proof
end

