-- ==== Sys2Proof/Machine/State.lean ====
section
/-! DEFINITION. The state of the block: NVOICES voice records and eight global registers (10_state.md R20),
and, beside them, the fields that are not architectural state and that `exec` and `step` can find
nowhere else: the configuration, the score address space, the output block, the place inside a
transaction, and the host's script and replies. All of it plain data. -/

namespace Sys2Proof.Machine

/-- The envelope's state tag (10_state.md R29). -/
inductive EnvState where
  | idle | delay | attack | hold | decay | sustain | release
deriving DecidableEq, Repr

/-- One voice record (10_state.md R21 to R32). -/
structure Voice where
  /-- R21: the voice contributes to the mix. -/
  playing : Bool
  /-- R22: the sounding note is percussion. -/
  perc : Bool
  /-- R23: Q8.24 when `perc = 0`, Q16.16 when `perc = 1`. -/
  phase : Word
  /-- R24: added to `phase` once per tick. -/
  inc : Word
  /-- R25: the clamped velocity. -/
  vscale : BitVec 7
  /-- R26: the instrument the next melodic note-on uses. -/
  instrSel : BitVec 8
  /-- R27: the instrument, or the drum, of the sounding note. -/
  actRef : BitVec 8
  /-- R28: the index of the final sample of the sounding drum. -/
  endIdx : BitVec 16
  /-- R29. -/
  envState : EnvState
  /-- R30: fraction of full scale, 2^30 is full scale. -/
  envLevel : Word
  /-- R31: two's complement. -/
  envInc : Word
  /-- R32: ticks left in the envelope state. -/
  envCount : Word
deriving DecidableEq, Repr

/-- The content of the score address space (20_memory.md R60): a list of (address, byte), and the byte
that every unlisted address reads as, itself data (93_implementation_defined.md U3; log entry 2). -/
structure Memory where
  pad : Byte
  cells : List Host.Cell
deriving DecidableEq, Repr

/-- Who invoked STEP: START, or stage 1 of tick `i` of a RENDER (40_score_interpreter.md R100). -/
inductive Caller where
  | start
  | tick (i : Nat)
deriving DecidableEq, Repr

/-- Where the block stands inside a transaction (log entry 4). -/
inductive Activity where
  /-- Between transactions. -/
  | idle
  /-- STEP is in progress: the next thing is the command at `cursor` (R100). -/
  | interp (c : Caller)
  /-- Tick `i` of a RENDER begins: stage 1 is due (44_render_step.md R202). -/
  | tick (i : Nat)
  /-- Tick `i` of a RENDER has its stages 2 and 3 due (44_render_step.md R202). -/
  | mix (i : Nat)
deriving DecidableEq, Repr

/-- What the host does between transactions: the four transactions (00_scope.md R7), a write of one
byte of the score address space (20_memory.md R76), or the reset input (70_reset_and_hazards.md R250). -/
inductive HostOp where
  | start (base : Word) (override : Byte)
  | stop
  | isPlaying
  | render
  | writeScore (a : Word) (b : Byte)
  | reset
deriving DecidableEq, Repr

/-- The machine. The fields to `lfsr` are the architectural state (10_state.md R20); those after it are
the model's own (INVENTORY.md, State). -/
structure State where
  /-- `V[0]` to `V[NVOICES-1]`. -/
  voices : List Voice
  /-- R33: the program counter of the interpreter. -/
  cursor : Word
  /-- R34: the address of the first command of the score. -/
  startPtr : Word
  /-- R35: the wait countdown. -/
  waitTicks : Word
  /-- R36. -/
  scorePlaying : Bool
  /-- R37: note-on commands carry a velocity byte. -/
  volPresent : Bool
  /-- R38: the configured voice count. -/
  nv : BitVec 5
  /-- R39: the voices active in the preceding tick. -/
  prevActive : BitVec 5
  /-- R40: the pseudo-random generator. -/
  lfsr : BitVec 8
  /-- The configuration; no step writes it (00_scope.md R4, R5; log entry 1). -/
  cfg : Config
  /-- The score address space; the block only reads it (20_memory.md R60). -/
  score : Memory
  /-- `OUT[0..BLOCK-1]`; an entry no tick has written is absent (20_memory.md R66; log entry 5). -/
  out : List (Option Sample)
  /-- The place inside a transaction (log entry 4). -/
  activity : Activity
  /-- What the host will still do, in order (log entry 3). -/
  script : List HostOp
  /-- The bits ISPLAYING has returned, oldest first (log entry 6). -/
  replies : List Bool
deriving DecidableEq, Repr

/-- Why the machine stops. The block raises no exception, trap or fault, and "a model's step function
therefore has no fault outcome" (60_exceptions.md R225): there is no constructor, so no step can
answer with a fault. Safe: nothing is claimed of a stopped machine. -/
inductive Fault where
deriving DecidableEq, Repr

/-- Why the machine has no meaning for an instruction. -/
inductive Refusal where
  /-- Raised by no arm of `exec`: every score command has its meaning. It would be safe: no claim could
  be proved of an instruction refused so. -/
  | notModelled (mnemonic : String)
deriving DecidableEq, Repr

/-- The voice record after reset and after START's `reset_voice` (10_state.md R43, 45_control_surface.md R211). -/
def Voice.reset (c : Config) : Voice where
  playing := false
  perc := false
  phase := 0
  inc := 0
  vscale := 0
  instrSel := BitVec.ofNat 8 c.params.defaultInstrument
  actRef := 0
  endIdx := 0
  envState := .idle
  envLevel := 0
  envInc := 0
  envCount := 0

/-- The machine of configuration `c` right after reset (10_state.md R43, 70_reset_and_hazards.md R250), before a
score address space with content `m`, with a host that will do `ops`. -/
def State.resetWith (c : Config) (m : Memory) (ops : List HostOp) : State where
  voices := List.replicate c.params.nvoices (Voice.reset c)
  cursor := 0
  startPtr := 0
  waitTicks := 0
  scorePlaying := false
  volPresent := c.params.defaultVolumePresent
  nv := BitVec.ofNat 5 c.params.nvoices
  prevActive := 0
  lfsr := 0x01
  cfg := c
  score := m
  out := List.replicate c.params.block none
  activity := .idle
  script := ops
  replies := []

/-- The machine right after reset (70_reset_and_hazards.md R250), with the test configuration TC1 (DESIGN
CHOICE, log entry 1), no score byte listed and padding 0xF0 (DESIGN CHOICE, log entry 2), and a host
that does nothing (log entry 3). -/
def State.reset : State := State.resetWith Config.tc1 { pad := 0xF0, cells := [] } []

end Sys2Proof.Machine
end

