-- ==== Sys2Proof/Machine/Flags.lean ====
section
/-! DEFINITION. The status bits and the conditions on them. The block has no condition codes: no command tests
an arithmetic result and saturation sets no flag (43_mixer.md R188). Its bits are `V[t].playing`,
`V[t].perc`, `score_playing` and `vol_present` (10_state.md R21, R22, R36, R37). -/

namespace Sys2Proof.Machine

/-- "A wait countdown is active": `wait_ticks != 0` (10_state.md R35). -/
def State.waitActive (s : State) : Bool := s.waitTicks != 0

/-- `in_range(t) = (t < nv)` (40_score_interpreter.md R105). -/
def State.inRange (s : State) (t : BitVec 4) : Bool := decide (t.toNat < s.nv.toNat)

/-- Melodic-playing: `playing = 1, perc = 0` (10_state.md R22). -/
def Voice.melodic (v : Voice) : Bool := v.playing && !v.perc

/-- Percussive-playing: `playing = 1, perc = 1` (10_state.md R22). -/
def Voice.percussive (v : Voice) : Bool := v.playing && v.perc

/-- The envelope states that last a number of ticks (42_envelope.md R162). -/
def EnvState.timed : EnvState → Bool
  | .delay | .attack | .hold | .decay | .release => true
  | .sustain | .idle => false

end Sys2Proof.Machine
end

