-- ==== Sys2Proof/Machine/Operands.lean ====
section
/-! DEFINITION. The operand forms of the score commands and the table reads: how a voice index, a note number, a
velocity, an instrument id and a wait count become what a command works on (30_encoding.md R83 to
R85), and the seven tables read by index (20_memory.md R67 to R73). -/

namespace Sys2Proof.Machine

/-- The row `INSTR[k]` (20_memory.md R69); beyond the table a free value (log entry 7). -/
def instrument (c : Config) (k : Nat) : Instrument :=
  (c.params.instr[k]?).getD (Config.unstatedInstrument k)

/-- The row `DRUM[k]` (20_memory.md R71); beyond the table a free value (log entry 7). -/
def drum (c : Config) (k : Nat) : Drum :=
  (c.params.drum[k]?).getD (Config.unstatedDrum k)

/-- `ATTEN[k]` (20_memory.md R68); beyond the table a free value (log entry 7). -/
def gain (c : Config) (k : Nat) : Nat :=
  (c.params.atten[k]?).getD (Config.unstatedGain k)

/-- `WAVE[w][i]` (20_memory.md R70); outside the table a free value (log entry 7). -/
def waveSample (c : Config) (w i : Nat) : Sample :=
  ((c.params.wave[w]?).bind fun l => l[i]?).getD (Config.unstatedSample w i)

/-- `DRUM[d].data[i]` (20_memory.md R71); beyond the final sample a free value (log entry 7). -/
def drumSample (c : Config) (d i : Nat) : Sample :=
  ((drum c d).data[i]?).getD (Config.unstatedDrumSample d i)

/-- `NOTE_FREQ[n]` for n in NOTE_MIN..NOTE_MAX (20_memory.md R67). The default is never taken: the table
has an entry for every note in the range, and only clamped notes index it. -/
def noteFreq (c : Config) (n : Nat) : Word :=
  c.params.noteFreq.getD (n - c.params.noteMin) 0

/-- `n' = clamp(n, NOTE_MIN, NOTE_MAX)`: a melodic note number is clamped to the supported pitch range
(41_voice_oscillator.md R132). -/
def clampNote (c : Config) (n : Byte) : Nat := clampNat n.toNat c.params.noteMin c.params.noteMax

/-- A note number of 128 to 255 selects a percussion instrument (41_voice_oscillator.md R130). -/
def isPercussion (n : Byte) : Bool := 128 ≤ n.toNat

/-- The drum a percussion note number selects: none when `PERCUSSION_EN = 0` or when `DRUM_MAP` has no
drum for the id n - 128 (41_voice_oscillator.md R133, 20_memory.md R73). -/
def drumOf (c : Config) (n : Byte) : Option Byte :=
  if c.params.percussionEn then
    (c.params.drumMap[n.toNat - 128]?).bind fun d => if d = 0xFF#8 then none else some d
  else none

/-- `clamp(vel, 1, 127)`, the amplitude scale of a velocity byte (41_voice_oscillator.md R131). -/
def velocityScale (vel : Byte) : BitVec 7 := BitVec.ofNat 7 (clampNat vel.toNat 1 127)

/-- `DEFAULT_VELOCITY`, the velocity of a note-on that carries none (30_encoding.md R84). -/
def defaultVelocity (c : Config) : Byte := BitVec.ofNat 8 c.params.defaultVelocity

/-- `PATCH_MAP[id]`, and none for an instrument id of 128 to 255 (30_encoding.md R85, 20_memory.md R72). -/
def patchOf (c : Config) (id : Byte) : Option Byte :=
  if id.toNat < 128 then c.params.patchMap[id.toNat]? else none

/-- The ticks of a wait of `ms` milliseconds: `floor_div(W * FS_HZ, 1000)`
(40_score_interpreter.md R104). -/
def waitToTicks (c : Config) (ms : BitVec 15) : Word :=
  trunc32 (floorDiv (ms.toNat * c.params.fsHz) 1000)

end Sys2Proof.Machine
end

