-- ==== Sys2Proof/Machine/Envelope.lean ====
section
/-! DEFINITION. The envelope generator (42_envelope.md R160 to R176): the entry procedures, the per-tick update,
release and idle, each on one voice record. `i` is `INSTR[V[t].act_ref]`, the instrument latched at
note-on (R160). -/

namespace Sys2Proof.Machine

/-- `env_enter_sustain` (42_envelope.md R167). -/
def envEnterSustain (i : Instrument) (v : Voice) : Voice :=
  { v with envState := .sustain, envLevel := i.sustain, envInc := 0, envCount := 0 }

/-- `env_enter_decay` (42_envelope.md R166): the magnitude is divided first and negated afterwards. -/
def envEnterDecay (i : Instrument) (v : Voice) : Voice :=
  if i.decay ≠ 0 then
    { v with
      envState := .decay, envLevel := toU32 envFull,
      envInc := toS32 (-(floorDiv (envFull - i.sustain.toNat) i.decay.toNat : Nat)),
      envCount := i.decay }
  else envEnterSustain i v

/-- `env_enter_hold` (42_envelope.md R165). -/
def envEnterHold (i : Instrument) (v : Voice) : Voice :=
  if i.hold ≠ 0 then
    { v with envState := .hold, envLevel := toU32 envFull, envInc := 0, envCount := i.hold }
  else envEnterDecay i v

/-- `env_enter_attack` (42_envelope.md R164). -/
def envEnterAttack (i : Instrument) (v : Voice) : Voice :=
  if i.attack ≠ 0 then
    { v with
      envState := .attack, envLevel := 0,
      envInc := toS32 (floorDiv envFull i.attack.toNat), envCount := i.attack }
  else envEnterHold i v

/-- `env_enter_delay` (42_envelope.md R163). -/
def envEnterDelay (i : Instrument) (v : Voice) : Voice :=
  if i.delay ≠ 0 then
    { v with envState := .delay, envLevel := 0, envInc := 0, envCount := i.delay }
  else envEnterAttack i v

/-- The envelope of a melodic note-on when `ENVELOPE_EN = 0`: full scale for as long as the voice plays
(42_envelope.md R175). -/
def envFullScale (v : Voice) : Voice :=
  { v with envState := .sustain, envLevel := toU32 envFull, envInc := 0, envCount := 0 }

/-- The envelope registers of a percussion voice, which has no envelope (41_voice_oscillator.md R133). -/
def envNone (v : Voice) : Voice :=
  { v with envState := .idle, envLevel := 0, envInc := 0, envCount := 0 }

/-- `env_to_idle` (42_envelope.md R173). -/
def envToIdle (v : Voice) : Voice :=
  { v with envState := .idle, envLevel := 0, envInc := 0, envCount := 0, playing := false }

/-- `env_enter_release` (42_envelope.md R171, R172): the level is not written. -/
def envEnterRelease (i : Instrument) (v : Voice) : Voice :=
  if i.release = 0 then envToIdle v
  else
    { v with
      envState := .release,
      envInc := toS32 (-(floorDiv v.envLevel.toNat i.release.toNat : Nat)),
      envCount := i.release }

/-- The entry procedure a timed state leaves to (42_envelope.md R162, R170). -/
def envLeave (i : Instrument) (v : Voice) : Voice :=
  match v.envState with
  | .delay => envEnterAttack i v
  | .attack => envEnterHold i v
  | .hold => envEnterDecay i v
  | .decay => envEnterSustain i v
  | .release => envToIdle v
  | .sustain | .idle => v

/-- The first two lines of `env_tick`: the level moves by the increment, the count goes down by one
(42_envelope.md R170). -/
def envCountDown (v : Voice) : Voice :=
  { v with envLevel := toU32 (v.envLevel.toNat + v.envInc.toInt), envCount := v.envCount - 1 }

/-- `env_tick` (42_envelope.md R170): nothing in Sustain and Idle. -/
def envTick (i : Instrument) (v : Voice) : Voice :=
  if v.envState.timed then
    let w := envCountDown v
    if w.envCount = 0 then envLeave i w else w
  else v

end Sys2Proof.Machine
end

