-- ==== Sys2Proof/Machine/Oscillator.lean ====
section
/-! DEFINITION. The note-controlled oscillator on one voice record (41_voice_oscillator.md R130 to R144): the
pseudo-random generator, the phase increments, note-on, note-off, the waveform read with
interpolation and the phase advance. -/

namespace Sys2Proof.Machine

/-- `lfsr_next`: one right shift of the Galois register with mask 0xB8 (41_voice_oscillator.md R136). -/
def lfsrNext (x : BitVec 8) : BitVec 8 :=
  if x.getLsbD 0 then (x >>> 1) ^^^ 0xB8#8 else x >>> 1

/-- `NOTE_INC[n'] = floor_div(NOTE_FREQ[n'] * 65536, FS_HZ)` (41_voice_oscillator.md R137). -/
def noteInc (c : Config) (n : Nat) : Word :=
  trunc32 (floorDiv ((noteFreq c n).toNat * 65536) c.params.fsHz)

/-- `DRUM_INC[d] = floor_div(DRUM[d].freq * 65536, FS_HZ)` (41_voice_oscillator.md R138). -/
def drumInc (c : Config) (d : Nat) : Word :=
  trunc32 (floorDiv ((drum c d).freq.toNat * 65536) c.params.fsHz)

/-- The envelope of a melodic note-on, through the instrument just latched
(41_voice_oscillator.md R132, 42_envelope.md R163, R175). -/
def envStart (c : Config) (v : Voice) : Voice :=
  if c.params.envelopeEn then envEnterDelay (instrument c v.actRef.toNat) v else envFullScale v

/-- Melodic note-on of voice `v`, with `l` the generator's new value (41_voice_oscillator.md R132). -/
def melodicOn (c : Config) (n vel : Byte) (l : BitVec 8) (v : Voice) : Voice :=
  envStart c
    { v with
      perc := false, actRef := v.instrSel, inc := noteInc c (clampNote c n),
      phase := trunc32 (l.toNat * 2 ^ 24), vscale := velocityScale vel, endIdx := 0, playing := true }

/-- Percussion note-on of voice `v` with drum `d` (41_voice_oscillator.md R133). -/
def percussionOn (c : Config) (d vel : Byte) (v : Voice) : Voice :=
  envNone
    { v with
      perc := true, actRef := d, inc := drumInc c d.toNat, phase := 0,
      endIdx := (drum c d.toNat).endIdx, vscale := velocityScale vel, playing := true }

/-- `NOTE_OFF` of voice `v` (41_voice_oscillator.md R135). -/
def noteOffVoice (c : Config) (v : Voice) : Voice :=
  if v.playing = false then v
  else if v.perc then { v with playing := false }
  else if c.params.envelopeEn = false then envToIdle v
  else if v.envState = .release then v
  else envEnterRelease (instrument c v.actRef.toNat) v

/-- `interp(s0, s1, fr) = s0 + (((s1 - s0) * fr) >>a 16)` (41_voice_oscillator.md R139). -/
def interp (s0 s1 : Sample) (fr : BitVec 16) : Int :=
  s0.toInt + asr ((s1.toInt - s0.toInt) * fr.toNat) 16

/-- The melodic sample: index `phase[31:24]`, fraction `phase[23:8]`, the second sample's index modulo
256 (41_voice_oscillator.md R140). -/
def melodicOsc (c : Config) (v : Voice) : Int :=
  let w := (instrument c v.actRef.toNat).wave.toNat
  let idx := (v.phase.extractLsb' 24 8).toNat
  interp (waveSample c w idx) (waveSample c w ((idx + 1) % 256)) (v.phase.extractLsb' 8 16)

/-- The percussion sample: index `phase[31:16]`, fraction `phase[15:0]` (41_voice_oscillator.md R141). -/
def percussionOsc (c : Config) (v : Voice) : Int :=
  let d := v.actRef.toNat
  let idx := (v.phase.extractLsb' 16 16).toNat
  interp (drumSample c d idx) (drumSample c d (idx + 1)) (v.phase.extractLsb' 0 16)

/-- `osc(t)` (41_voice_oscillator.md R140, R141). -/
def osc (c : Config) (v : Voice) : Int := if v.perc then percussionOsc c v else melodicOsc c v

/-- Melodic phase advance, modulo 2^32 (41_voice_oscillator.md R142). -/
def melodicPhase (v : Voice) : Voice := { v with phase := trunc32 (v.phase.toNat + v.inc.toNat) }

/-- Percussion advance and end of waveform, tested on the untruncated sum
(41_voice_oscillator.md R143). -/
def percussionAdvance (v : Voice) : Voice :=
  let sum := v.phase.toNat + v.inc.toNat
  { v with phase := trunc32 sum, playing := v.playing && decide (sum / 65536 < v.endIdx.toNat) }

/-- What stage 3 of a tick does to one voice: nothing to a voice that is not playing
(44_render_step.md R199, R202; 41_voice_oscillator.md R144). -/
def advanceVoice (c : Config) (v : Voice) : Voice :=
  if v.playing = false then v
  else if v.perc then percussionAdvance v
  else envTick (instrument c v.actRef.toNat) (melodicPhase v)

end Sys2Proof.Machine
end

