-- ==== Sys2Proof/Machine/Ops.lean ====
section
/-! DEFINITION. The named operations over the score address space, the registers and the voices that the commands,
the transactions and the ticks share. The block takes no exception (60_exceptions.md R225), so there is
no exception entry and no return from one; its one internal entry is wait expiry, which enters STEP
(R231), and it stands here beside STEP's return. -/

namespace Sys2Proof.Machine

/-! The score address space (20_memory.md R60). -/

/-- The byte that a list of cells holds at `a`, and `pad` where it lists none. -/
def readCells (pad : Byte) (a : Nat) : List Host.Cell → Byte
  | [] => pad
  | (k, v) :: r => if k = a then v else readCells pad a r

/-- The list of cells after byte `b` is stored at `a`: the cells stay in rising order of address, and a
byte equal to `pad` is not listed. -/
def writeCells (pad : Byte) (a : Nat) (b : Byte) : List Host.Cell → List Host.Cell
  | [] => if b = pad then [] else [(a, b)]
  | (k, v) :: r =>
    if a < k then (if b = pad then (k, v) :: r else (a, b) :: (k, v) :: r)
    else if a = k then (if b = pad then r else (a, b) :: r)
    else (k, v) :: writeCells pad a b r

/-- The cells stand in strictly rising order of address, each above `lo`, inside the 2^32 bytes of the
space, and none holds `pad`. -/
def cellsOk (pad : Byte) : Nat → List Host.Cell → Bool
  | _, [] => true
  | lo, (k, v) :: r => decide (lo ≤ k) && decide (k < 2 ^ 32) && decide (v ≠ pad) && cellsOk pad (k + 1) r

/-- `MemRead(a, 1)` (00_scope.md R11, 20_memory.md R60): every address reads as some byte. -/
def Memory.read (m : Memory) (a : Word) : Byte := readCells m.pad a.toNat m.cells

/-- The score address space after the host stores a byte (20_memory.md R76). The block never does. -/
def Memory.write (m : Memory) (a : Word) (b : Byte) : Memory :=
  { m with cells := writeCells m.pad a.toNat b m.cells }

/-- The canonical form of a memory: equal contents over one padding byte are equal data. -/
def Memory.wf (m : Memory) : Bool := cellsOk m.pad 0 m.cells

/-! The command fetch (40_score_interpreter.md R101). -/

/-- The byte `k` places after the cursor, modulo 2^32 (40_score_interpreter.md R101, 20_memory.md R61). -/
def State.byteAt (s : State) (k : Nat) : Byte := s.score.read (s.cursor + BitVec.ofNat 32 k)

/-- The command at the cursor, decoded under the mode bit `vol_present` (30_encoding.md R82, R86). -/
def State.fetched (s : State) : Instr := decodeFrom s.volPresent s.byteAt

/-- The cursor after the `k` bytes of a command were fetched (40_score_interpreter.md R101, R112). -/
def State.advance (s : State) (k : Nat) : State := { s with cursor := s.cursor + BitVec.ofNat 32 k }

/-- `cursor <- target` (00_scope.md R10). -/
def State.jump (s : State) (target : Word) : State := { s with cursor := target }

/-! STEP's entry and return (40_score_interpreter.md R100, 60_exceptions.md R231). -/

/-- STEP is invoked by `c`: it saves nothing and continues from `cursor`. -/
def State.enterStep (s : State) (c : Caller) : State := { s with activity := .interp c }

/-- STEP returns to who invoked it: START is then complete, a tick goes on to its stages 2 and 3
(40_score_interpreter.md R100, 44_render_step.md R202). -/
def State.returnFromStep (s : State) : State :=
  { s with activity := match s.activity with
    | .interp .start => .idle
    | .interp (.tick i) => .mix i
    | a => a }

/-! Registers. -/

/-- `wait_ticks <- w` (10_state.md R35). -/
def State.setWait (s : State) (w : Word) : State := { s with waitTicks := w }

/-- `score_playing <- b` (10_state.md R36). -/
def State.setPlaying (s : State) (b : Bool) : State := { s with scorePlaying := b }

/-- `lfsr <- l` (10_state.md R40). -/
def State.setLfsr (s : State) (l : BitVec 8) : State := { s with lfsr := l }

/-- All voice records are replaced. -/
def State.setVoices (s : State) (vs : List Voice) : State := { s with voices := vs }

/-- `V[t] <- v` (00_scope.md R10). -/
def State.setVoice (s : State) (t : Nat) (v : Voice) : State := s.setVoices (s.voices.set t v)

/-! Notes. -/

/-- `NOTE_ON(t, n, vel)` (41_voice_oscillator.md R130): melodic for n < 128 (R132), percussion for
n >= 128, where no drum means that the note-on is ignored (R133). Nothing happens to a voice that does
not exist. -/
def State.noteOn (s : State) (t : Nat) (n vel : Byte) : State :=
  match s.voices[t]? with
  | none => s
  | some v =>
    if isPercussion n then
      match drumOf s.cfg n with
      | none => s
      | some d => s.setVoice t (percussionOn s.cfg d vel v)
    else
      (s.setLfsr (lfsrNext s.lfsr)).setVoice t (melodicOn s.cfg n vel (lfsrNext s.lfsr) v)

/-- `NOTE_OFF(t)` (41_voice_oscillator.md R135). -/
def State.noteOff (s : State) (t : Nat) : State :=
  match s.voices[t]? with
  | none => s
  | some v => s.setVoice t (noteOffVoice s.cfg v)

/-- `V[t].instr_sel <- k` (40_score_interpreter.md R108). -/
def State.selectInstrument (s : State) (t : Nat) (k : Byte) : State :=
  match s.voices[t]? with
  | none => s
  | some v => s.setVoice t { v with instrSel := k }

/-- The halt of a score, by the STOP command and by STOP(): note-off on every voice that exists, then
`score_playing <- 0` and `wait_ticks <- 0` (40_score_interpreter.md R110, 45_control_surface.md R217). -/
def State.haltScore (s : State) : State :=
  ((s.setVoices (s.voices.map (noteOffVoice s.cfg))).setPlaying false).setWait 0

/-- The reset input on any state: every register takes its reset value, nothing is fetched, the score
address space and the output block are not touched (70_reset_and_hazards.md R250). -/
def State.powerOn (s : State) : State :=
  { State.resetWith s.cfg s.score s.script with out := s.out, replies := s.replies }

end Sys2Proof.Machine
end

