-- ==== Sys2Proof/Machine/Flow.lean ====
section
/-! DEFINITION. The meanings of the commands that move the score along: WAIT, RESTART, STOP and the reserved
no-ops (40_score_interpreter.md R104, R109 to R111). -/

namespace Sys2Proof.Machine

/-- WAIT: `wait_ticks <- floor_div(W * FS_HZ, 1000)`, and STEP returns (40_score_interpreter.md R104). -/
def execWait (ms : BitVec 15) (s : State) : Host.Outcome State Fault Refusal :=
  .next (((s.advance 2).setWait (waitToTicks s.cfg ms)).returnFromStep)

/-- RESTART: `cursor <- start_ptr`, and STEP goes on there (40_score_interpreter.md R109). The low
nibble is ignored (30_encoding.md R88). -/
def execRestart (_x : BitVec 4) (s : State) : Host.Outcome State Fault Refusal :=
  .next (s.jump s.startPtr)

/-- STOP: note-off on every voice, `score_playing <- 0`, `wait_ticks <- 0`, and STEP returns
(40_score_interpreter.md R110). The low nibble is ignored (30_encoding.md R88). -/
def execStop (_x : BitVec 4) (s : State) : Host.Outcome State Fault Refusal :=
  .next (((s.advance 1).haltScore).returnFromStep)

/-- RSVD_A: only the cursor moves (40_score_interpreter.md R111). -/
def execRsvdA (_x : BitVec 4) (s : State) : Host.Outcome State Fault Refusal := .next (s.advance 1)

/-- RSVD_B: only the cursor moves (40_score_interpreter.md R111). -/
def execRsvdB (_x : BitVec 4) (s : State) : Host.Outcome State Fault Refusal := .next (s.advance 1)

/-- RSVD_D: only the cursor moves (40_score_interpreter.md R111). -/
def execRsvdD (_x : BitVec 4) (s : State) : Host.Outcome State Fault Refusal := .next (s.advance 1)

end Sys2Proof.Machine
end

