-- ==== Sys2Proof/Machine/Notes.lean ====
section
/-! DEFINITION. The meanings of the note commands NOTEON, NOTEOFF and INSTR (40_score_interpreter.md R106 to R108).
Each fetches all its bytes whether or not it is then ignored (R103). -/

namespace Sys2Proof.Machine

/-- NOTEON without a velocity byte, the form of `vol_present = 0`: the velocity is `DEFAULT_VELOCITY`
(40_score_interpreter.md R106; 30_encoding.md R84). -/
def execNoteOn (t : BitVec 4) (n : BitVec 8) (s : State) : Host.Outcome State Fault Refusal :=
  let s' := s.advance 2
  .next (if s.inRange t then s'.noteOn t.toNat n (defaultVelocity s.cfg) else s')

/-- NOTEON with a velocity byte, the form of `vol_present = 1` (40_score_interpreter.md R106;
30_encoding.md R84). -/
def execNoteOnVel (t : BitVec 4) (n vel : BitVec 8) (s : State) : Host.Outcome State Fault Refusal :=
  let s' := s.advance 3
  .next (if s.inRange t then s'.noteOn t.toNat n vel else s')

/-- NOTEOFF (40_score_interpreter.md R107). -/
def execNoteOff (t : BitVec 4) (s : State) : Host.Outcome State Fault Refusal :=
  let s' := s.advance 1
  .next (if s.inRange t then s'.noteOff t.toNat else s')

/-- INSTR: `V[t].instr_sel <- PATCH_MAP[id]` when t < nv and id < 128, and nothing else
(40_score_interpreter.md R108). -/
def execInstr (t : BitVec 4) (id : BitVec 8) (s : State) : Host.Outcome State Fault Refusal :=
  let s' := s.advance 2
  .next (if s.inRange t then
      match patchOf s.cfg id with
      | none => s'
      | some k => s'.selectInstrument t.toNat k
    else s')

end Sys2Proof.Machine
end

