-- ==== Sys2Proof/Machine/Dispatch.lean ====
section
/-! DEFINITION. What each score command does: one arm per constructor of Instr, each one direct call of its
meaning. -/

namespace Sys2Proof.Machine

def exec (i : Instr) (s : State) : Host.Outcome State Fault Refusal :=
  match i with
  | .wait ms => Sys2Proof.Machine.execWait ms s
  | .noteOff t => Sys2Proof.Machine.execNoteOff t s
  | .noteOn t n => Sys2Proof.Machine.execNoteOn t n s
  | .noteOnVel t n vel => Sys2Proof.Machine.execNoteOnVel t n vel s
  | .rsvdA x => Sys2Proof.Machine.execRsvdA x s
  | .rsvdB x => Sys2Proof.Machine.execRsvdB x s
  | .instr t id => Sys2Proof.Machine.execInstr t id s
  | .rsvdD x => Sys2Proof.Machine.execRsvdD x s
  | .restart x => Sys2Proof.Machine.execRestart x s
  | .stop x => Sys2Proof.Machine.execStop x s

end Sys2Proof.Machine
end

