-- ==== Sys2Proof/Machine/Mixer.lean ====
section
/-! DEFINITION. The mixer (43_mixer.md R180 to R190): one voice's contribution, the sum, the attenuation and the
saturation. Each multiplication is followed at once by its own arithmetic shift (R180). -/

namespace Sys2Proof.Machine

/-- `env_mult = env_level >>a 14` (43_mixer.md R181). -/
def envMult (v : Voice) : Int := asr v.envLevel.toNat 14

/-- `e(t)`: the envelope scaling of a melodic voice, none for a percussion voice (43_mixer.md R181). -/
def envScaled (c : Config) (v : Voice) : Int :=
  if v.perc then osc c v else asr (osc c v * envMult v) 16

/-- `contrib(t)`: the velocity scaling (43_mixer.md R182). -/
def contrib (c : Config) (v : Voice) : Int := asr (envScaled c v * v.vscale.toNat) 7

/-- The voices the mixer sums: t < nv and playing (43_mixer.md R183, R184). -/
def State.mixed (s : State) : List Voice := (s.voices.take s.nv.toNat).filter (·.playing)

/-- `acc`, the exact sum (43_mixer.md R184). -/
def State.acc (s : State) : Int := (s.mixed.map (contrib s.cfg)).sum

/-- The index of the attenuation table (43_mixer.md R186). -/
def State.attenIndex (s : State) : Nat :=
  if s.cfg.params.dynamicAtten then s.prevActive.toNat else s.nv.toNat

/-- The sample `MIX()` returns (43_mixer.md R185, R188, R189). -/
def State.mixSample (s : State) : Sample :=
  toSample (sat16 (asr (s.acc * gain s.cfg s.attenIndex) 8))

/-- The number of voices active at the time of the sum (43_mixer.md R187). -/
def State.activeCount (s : State) : BitVec 5 := BitVec.ofNat 5 s.mixed.length

end Sys2Proof.Machine
end

