-- ==== Sys2Proof/Machine/Render.lean ====
section
/-! DEFINITION. The tick (44_render_step.md R195 to R206): stage 1, countdown and interpreter entry; stages 2 and 3,
mix and advance, with the sample stored in the output block. -/

namespace Sys2Proof.Machine

/-- `OUT[i] <- v` (20_memory.md R66). -/
def State.writeOut (s : State) (i : Nat) (v : Sample) : State := { s with out := s.out.set i (some v) }

/-- Stage 1 of tick `i` (44_render_step.md R197): while the score plays, an active countdown goes down by
one, and STEP is invoked when that reaches 0; otherwise the tick goes on to its mix. -/
def State.countdown (s : State) (i : Nat) : State :=
  if s.scorePlaying && s.waitActive then
    let s' := s.setWait (s.waitTicks - 1)
    if s'.waitTicks = 0 then s'.enterStep (.tick i) else { s' with activity := .mix i }
  else { s with activity := .mix i }

/-- Stage 2 of tick `i` (44_render_step.md R196; 43_mixer.md R189): `OUT[i] <- MIX()`, which also writes
`prev_active`. -/
def State.mixStage (s : State) (i : Nat) : State :=
  { s.writeOut i s.mixSample with prevActive := s.activeCount }

/-- Stage 3 of a tick (44_render_step.md R199): every voice that plays is advanced once. -/
def State.advanceStage (s : State) : State := s.setVoices (s.voices.map (advanceVoice s.cfg))

/-- After tick `i`: the next tick of the block, and after the last one RENDER is complete
(44_render_step.md R201). -/
def State.endTick (s : State) (i : Nat) : State :=
  { s with activity := if i + 1 < s.cfg.params.block then .tick (i + 1) else .idle }

/-- Stages 2 and 3 of tick `i`, in that order (44_render_step.md R202). -/
def State.finishTick (s : State) (i : Nat) : State := ((s.mixStage i).advanceStage).endTick i

/-- RENDER begins: the host hands over an output block of which nothing is written yet, and tick 0 is due
(44_render_step.md R195, R201; 20_memory.md R66; log entry 5). -/
def State.beginRender (s : State) : State :=
  { s with out := List.replicate s.cfg.params.block none, activity := .tick 0 }

end Sys2Proof.Machine
end

