-- ==== Sys2Proof/Machine/Surface.lean ====
section
/-! DEFINITION. The control surface (45_control_surface.md R210 to R222): START, STOP, ISPLAYING, the header, and what
the block does with each entry of the host's script. -/

namespace Sys2Proof.Machine

/-- What START takes from a header that is present (30_encoding.md R90, 45_control_surface.md R210). -/
structure Header where
  volPresent : Bool
  startPtr : Word
  voices : Byte
deriving DecidableEq, Repr

/-- The header at `base`, if one is present (30_encoding.md R92): both signature bytes match and the length
byte is at least 6. `base + 4` and the bytes from `base + 6` are never read (45_control_surface.md R212). -/
def headerAt (c : Config) (m : Memory) (base : Word) : Option Header :=
  if m.read base = c.params.hdrSig0 ∧ m.read (base + 1) = c.params.hdrSig1 then
    let len := m.read (base + 2)
    if 6 ≤ len.toNat then
      some {
        volPresent := (m.read (base + 3)).getLsbD 7
        startPtr := base + BitVec.ofNat 32 len.toNat
        voices := m.read (base + 5) }
    else none
  else none

/-- The raw voice count: the override when it is not 0, else the header's count, else NVOICES
(45_control_surface.md R213). -/
def rawVoices (c : Config) (override : Byte) (h : Option Header) : Nat :=
  if override ≠ 0 then override.toNat
  else match h with
    | some h => h.voices.toNat
    | none => c.params.nvoices

/-- `nv <- clamp(raw, 1, NVOICES)` (45_control_surface.md R213). -/
def effectiveVoices (c : Config) (override : Byte) (h : Option Header) : BitVec 5 :=
  BitVec.ofNat 5 (clampNat (rawVoices c override h) 1 c.params.nvoices)

/-- Where decoding starts: after a header that is present, else at `base` (45_control_surface.md R210, R212). -/
def firstCommand (base : Word) (h : Option Header) : Word :=
  match h with
  | some h => h.startPtr
  | none => base

/-- Whether note-on commands carry a velocity byte (45_control_surface.md R210, R212). -/
def volumeMode (c : Config) (h : Option Header) : Bool :=
  match h with
  | some h => h.volPresent
  | none => c.params.defaultVolumePresent

/-- `START(base, override)`, lines 1 to 20, and the invocation of STEP of line 21 (45_control_surface.md
R210). `lfsr` is not written (R216). -/
def State.startScore (s : State) (base : Word) (override : Byte) : State :=
  let h := headerAt s.cfg s.score base
  { s with
    scorePlaying := true
    waitTicks := 0
    voices := List.replicate s.cfg.params.nvoices (Voice.reset s.cfg)
    prevActive := 0
    volPresent := volumeMode s.cfg h
    startPtr := firstCommand base h
    nv := effectiveVoices s.cfg override h
    cursor := firstCommand base h
    activity := .interp .start }

/-- `STOP()`: nothing when the score is not playing (45_control_surface.md R217). -/
def State.stopScore (s : State) : State := if s.scorePlaying then s.haltScore else s

/-- `ISPLAYING()` returns `score_playing` (45_control_surface.md R219). -/
def State.reply (s : State) : State := { s with replies := s.replies ++ [s.scorePlaying] }

/-- What one entry of the host's script does to an idle block (00_scope.md R7; 20_memory.md R76;
70_reset_and_hazards.md R250). -/
def State.host (s : State) : HostOp → State
  | .start base override => s.startScore base override
  | .stop => s.stopScore
  | .isPlaying => s.reply
  | .render => s.beginRender
  | .writeScore a b => { s with score := s.score.write a b }
  | .reset => s.powerOn

/-- Between transactions: the next entry of the script is taken off and done; with no entry left the block
holds its state (44_render_step.md R205, 60_exceptions.md R239). -/
def State.idleStep (s : State) : State :=
  match s.script with
  | [] => s
  | op :: rest => { s with script := rest }.host op

/-- `vol_present` as the row of a table word needs it: the two rows of NOTEON are told apart by it, and
no other row looks at it (30_encoding.md R82). -/
def tableMode (nbits w : Nat) (old : Bool) : Bool :=
  if opOf (tableByte nbits w 0) = 0x9#4 then tableVolume nbits else old

end Sys2Proof.Machine
end

