-- ==== Sys2Proof/Machine/Step.lean ====
section
/-! DEFINITION. One step of the block: one command of STEP, or one stage of a tick, or one entry of the host's
script (log entry 4). -/

namespace Sys2Proof.Machine

/-- One step. Inside STEP the command at the cursor is fetched, decoded and run
(40_score_interpreter.md R100); a tick does stage 1, then stages 2 and 3 (44_render_step.md R202); an
idle block takes the host's next transaction (00_scope.md R7). -/
def step (s : State) : Host.Outcome State Fault Refusal :=
  match s.activity with
  | .interp _ => exec s.fetched s
  | .tick i => .next (s.countdown i)
  | .mix i => .next (s.finishTick i)
  | .idle => .next s.idleStep

/-- `s` with an instruction of the opcode table stored at the cursor, the mode bit its row needs, and STEP
in progress on a playing score, so that the next step fetches and runs it: it stands for the host's
write of the score and for its START (log entry 9). -/
def State.withFetchWord (s : State) (nbits w : Nat) : State :=
  { s with
    score := ((s.score.write s.cursor (tableByte nbits w 0)).write (s.cursor + 1) (tableByte nbits w 1)).write
      (s.cursor + 2) (tableByte nbits w 2)
    volPresent := tableMode nbits w s.volPresent
    scorePlaying := true
    activity := match s.activity with
      | .interp c => .interp c
      | .idle | .tick _ | .mix _ => .interp .start }

end Sys2Proof.Machine
end

