-- ==== Sys2Proof/Machine/Assembler.lean ====
section
/-! DEFINITION. The spec's assembler statements, directives and pseudo-instructions, as abstract syntax, and the
bytes they emit (30_encoding.md R93, R94). No part of the block: how a score comes to be written. -/

namespace Sys2Proof.Machine

/-- One statement of an assembler source (30_encoding.md R93, R94). -/
inductive Stmt where
  | noteOn (t : BitVec 4) (n : Byte)
  | noteOnVel (t : BitVec 4) (n v : Byte)
  | noteOff (t : BitVec 4)
  | instr (t : BitVec 4) (id : Byte)
  | restart
  | stop
  | wait (ms : BitVec 15)
  /-- `RSVD b`: the single byte, which must be in 0xA0..0xBF or 0xD0..0xDF. -/
  | rsvd (b : Byte)
  /-- `.volume on` and `.volume off`. -/
  | volume (on : Bool)
  /-- `.byte b, ...`. -/
  | bytes (bs : List Byte)
  /-- `HEADER len, f1, f2, voices`. -/
  | header (len f1 f2 voices : Byte)
  /-- `DELAY ms`, for ms > 32767. -/
  | delay (ms : Nat)
deriving DecidableEq, Repr

/-- The wait counts `DELAY ms` expands to: floor(ms / 32767) times 32767, then the remainder when it is
not zero (30_encoding.md R94). -/
def delayParts (ms : Nat) : List (BitVec 15) :=
  List.replicate (ms / 32767) 0x7FFF#15 ++
    (if ms % 32767 = 0 then [] else [BitVec.ofNat 15 (ms % 32767)])

/-- The bytes of a statement and the NOTEON form that is legal after it; none for a statement that is not
legal (30_encoding.md R93, R94). -/
def assembleStmt (c : Config) (vol : Bool) : Stmt → Option (List Byte × Bool)
  | .noteOn t n => if vol then none else some (encode (.noteOn t n), vol)
  | .noteOnVel t n v => if vol then some (encode (.noteOnVel t n v), vol) else none
  | .noteOff t => some (encode (.noteOff t), vol)
  | .instr t id => some (encode (.instr t id), vol)
  | .restart => some (encode (.restart 0), vol)
  | .stop => some (encode (.stop 0), vol)
  | .wait ms => some (encode (.wait ms), vol)
  | .rsvd b => if opOf b = 0xA#4 ∨ opOf b = 0xB#4 ∨ opOf b = 0xD#4 then some ([b], vol) else none
  | .volume on => some ([], on)
  | .bytes bs => some (bs, vol)
  | .header len f1 f2 voices =>
    if 6 ≤ len.toNat then
      some ([c.params.hdrSig0, c.params.hdrSig1, len, f1, f2, voices] ++
        List.replicate (len.toNat - 6) 0#8, f1.getLsbD 7)
    else none
  | .delay ms =>
    if 32767 < ms then some ((delayParts ms).flatMap fun w => encode (.wait w), vol) else none

/-- The bytes of a source under the NOTEON form `vol`; none when a statement is not legal. -/
def assembleFrom (c : Config) (vol : Bool) : List Stmt → Option (List Byte)
  | [] => some []
  | x :: rest =>
    (assembleStmt c vol x).bind fun (bs, vol') => (assembleFrom c vol' rest).map (bs ++ ·)

/-- The bytes of a whole source; without a header or a directive the NOTEON form is the one of
`DEFAULT_VOLUME_PRESENT` (30_encoding.md R94). -/
def assemble (c : Config) (src : List Stmt) : Option (List Byte) :=
  assembleFrom c c.params.defaultVolumePresent src

end Sys2Proof.Machine
end

