-- ==== Sys2Proof/Safety.lean ====
section
/-! DEFINITION. What counts as a good state and a safe run: the invariants of every reachable state (10_state.md
R42), with what they need to be kept by every step, and the runs of the machine. -/

namespace Sys2Proof.Machine

/-- The level the envelope has if it goes on by its increment to the end of its segment. -/
def Voice.rampEnd (v : Voice) : Int := v.envLevel.toNat + v.envCount.toNat * v.envInc.toInt

/-- The sign of the increment in each envelope state (10_state.md R31). -/
def EnvState.incOk (e : EnvState) (d : Int) : Bool :=
  match e with
  | .attack => decide (0 ≤ d)
  | .decay | .release => decide (d ≤ 0)
  | .idle | .delay | .hold | .sustain => decide (d = 0)

/-- The invariants of one voice record: 10_state.md R42 (e), (f), (d), with the end of the ramp in range
(42_envelope.md R176) and the increment's sign (R31), (g) with the end index of the sounding drum, (h), (i). -/
abbrev Voice.Ok (c : Config) (v : Voice) : Prop :=
  (v.envState = .idle ↔ (v.playing = false ∨ v.perc = true)) ∧
  (v.envCount ≠ 0 ↔ v.envState.timed = true) ∧
  v.envLevel.toNat ≤ envFull ∧
  (0 ≤ v.rampEnd ∧ v.rampEnd ≤ envFull) ∧
  v.envState.incOk v.envInc.toInt = true ∧
  (v.percussive = true →
    v.phase.toNat / 65536 < v.endIdx.toNat ∧ v.actRef.toNat < c.params.numDrums ∧
    v.endIdx = (drum c v.actRef.toNat).endIdx) ∧
  (v.playing = true → 1 ≤ v.vscale.toNat) ∧
  (v.melodic = true → v.actRef.toNat < c.params.numInstr) ∧
  v.instrSel.toNat < c.params.numInstr

/-- Where the block may stand: inside STEP the score plays and no countdown is active; a tick number is one
of the block (40_score_interpreter.md R100, 44_render_step.md R201). -/
def State.placeOk (s : State) : Bool :=
  match s.activity with
  | .idle => true
  | .interp .start => s.scorePlaying && !s.waitActive
  | .interp (.tick i) => s.scorePlaying && !s.waitActive && decide (i < s.cfg.params.block)
  | .tick i | .mix i => decide (i < s.cfg.params.block)

/-- The invariants of every reachable state (10_state.md R42, (a) to (k)), the number of voice records
(R20), the length of the output block (20_memory.md R66), and the canonical form of the score memory. -/
abbrev State.Ok (s : State) : Prop :=
  s.voices.length = s.cfg.params.nvoices ∧
  s.lfsr ≠ 0 ∧
  (1 ≤ s.nv.toNat ∧ s.nv.toNat ≤ s.cfg.params.nvoices) ∧
  (∀ v ∈ s.voices.drop s.nv.toNat, v.playing = false) ∧
  (∀ v ∈ s.voices, v.Ok s.cfg) ∧
  s.prevActive.toNat ≤ s.cfg.params.nvoices ∧
  (s.scorePlaying = false → s.waitTicks = 0) ∧
  s.placeOk = true ∧
  s.out.length = s.cfg.params.block ∧
  s.score.wf = true

/-- How much of the output block is written: inside tick `i` the entries below `i` and no other; between RENDERs all of
it, or none of it (44_render_step.md R195, R201; 20_memory.md R66; log entry 5). -/
def State.outOk (s : State) : Bool :=
  match s.activity with
  | .idle | .interp .start => s.out.all (·.isNone) || s.out.all (·.isSome)
  | .tick i | .mix i | .interp (.tick i) => (s.out.take i).all (·.isSome) && (s.out.drop i).all (·.isNone)

/-- `t` is the state after `k` steps from `s`, none of which stopped. -/
def RunsTo (k : Nat) (s t : State) : Prop := Sys2Proof.core.run k s = .next t

/-- The machine never stops within `k` steps from `s`. -/
def SafeRun (k : Nat) (s : State) : Prop := ∃ t, RunsTo k s t

end Sys2Proof.Machine
end

