-- ==== Sys2Proof/Certificates/Slice0/Obligations.lean ====
section
/-! DEFINITION. The statements for the provers, and the few predicates they share. -/

namespace Sys2Proof.Claims

open Sys2Proof Sys2Proof.Machine

/-- What no score command writes (45_control_surface.md R221): the registers only START writes, the mixer's
`prev_active`, the configuration, the output block, the host's script and replies, and every byte of the
score address space. -/
def SameControl (s t : State) : Prop :=
  t.startPtr = s.startPtr ∧ t.volPresent = s.volPresent ∧ t.nv = s.nv ∧ t.prevActive = s.prevActive ∧
  t.cfg = s.cfg ∧ t.out = s.out ∧ t.script = s.script ∧ t.replies = s.replies ∧
  ∀ a, t.score.read a = s.score.read a

/-- STEP has returned to who invoked it: START is complete, tick `i` goes on to its mix
(40_score_interpreter.md R100, 44_render_step.md R202). -/
def Returned (s t : State) : Prop :=
  (s.activity = .interp .start → t.activity = .idle) ∧
  (∀ i, s.activity = .interp (.tick i) → t.activity = .mix i) ∧
  ((∀ c, s.activity ≠ .interp c) → t.activity = s.activity)

/-- Every voice but voice `u` is unchanged. -/
def OtherVoices (u : Nat) (s t : State) : Prop := ∀ w, w ≠ u → t.voices[w]? = s.voices[w]?

/-- Only the cursor has moved, to `a`. -/
def OnlyCursor (s t : State) (a : Word) : Prop :=
  t.cursor = a ∧ t.voices = s.voices ∧ t.lfsr = s.lfsr ∧ t.waitTicks = s.waitTicks ∧
  t.scorePlaying = s.scorePlaying ∧ t.activity = s.activity ∧ SameControl s t

/-- The envelope registers of `w` are those `env_enter_sustain` leaves (42_envelope.md R162, R167). -/
def SustainBegins (i : Instrument) (w : Voice) : Prop :=
  w.envState = .sustain ∧ w.envLevel = i.sustain ∧ w.envInc.toInt = 0 ∧ w.envCount = 0

/-- The envelope registers of `w` are those `env_enter_decay` leaves (42_envelope.md R162, R166). -/
def DecayBegins (i : Instrument) (w : Voice) : Prop :=
  (i.decay ≠ 0 →
    w.envState = .decay ∧ w.envLevel.toNat = 2 ^ 30 ∧
    w.envInc.toInt = -(((2 ^ 30 - i.sustain.toNat) / i.decay.toNat : Nat) : Int) ∧ w.envCount = i.decay) ∧
  (i.decay = 0 → SustainBegins i w)

/-- The envelope registers of `w` are those `env_enter_hold` leaves (42_envelope.md R162, R165). -/
def HoldBegins (i : Instrument) (w : Voice) : Prop :=
  (i.hold ≠ 0 →
    w.envState = .hold ∧ w.envLevel.toNat = 2 ^ 30 ∧ w.envInc.toInt = 0 ∧ w.envCount = i.hold) ∧
  (i.hold = 0 → DecayBegins i w)

/-- The envelope registers of `w` are those `env_enter_attack` leaves (42_envelope.md R162, R164). -/
def AttackBegins (i : Instrument) (w : Voice) : Prop :=
  (i.attack ≠ 0 →
    w.envState = .attack ∧ w.envLevel.toNat = 0 ∧ w.envInc.toInt = ((2 ^ 30 / i.attack.toNat : Nat) : Int) ∧
    w.envCount = i.attack) ∧
  (i.attack = 0 → HoldBegins i w)

/-- The envelope registers of `w` are those of a note just begun with instrument `i`, which `env_enter_delay`
leaves: the first of Delay, Attack, Hold, Decay with a nonzero duration, else Sustain (42_envelope.md R162,
R163, R168). -/
def EnvelopeBegins (i : Instrument) (w : Voice) : Prop :=
  (i.delay ≠ 0 → w.envState = .delay ∧ w.envLevel.toNat = 0 ∧ w.envInc.toInt = 0 ∧ w.envCount = i.delay) ∧
  (i.delay = 0 → AttackBegins i w)

/-- `w` is voice `v` after `env_to_idle` (42_envelope.md R173). -/
def Silenced (v w : Voice) : Prop :=
  w = { v with envState := .idle, envLevel := 0, envInc := 0, envCount := 0, playing := false }

/-- What a note-off makes of voice `v` (41_voice_oscillator.md R135, 42_envelope.md R171, R172). -/
def NotedOff (c : Config) (v w : Voice) : Prop :=
  (v.playing = false → w = v) ∧
  (v.playing = true → v.perc = true → w = { v with playing := false }) ∧
  (v.playing = true → v.perc = false → c.params.envelopeEn = false → Silenced v w) ∧
  (v.playing = true → v.perc = false → c.params.envelopeEn = true → v.envState = .release → w = v) ∧
  (v.playing = true → v.perc = false → c.params.envelopeEn = true → v.envState ≠ .release →
    ∀ i, c.params.instr[v.actRef.toNat]? = some i →
      (i.release = 0 → Silenced v w) ∧
      (i.release ≠ 0 → v.envLevel.toNat ≤ 2 ^ 30 →
        w.envInc.toInt = -((v.envLevel.toNat / i.release.toNat : Nat) : Int) ∧
        w = { v with envState := .release, envInc := w.envInc, envCount := i.release }))

/-- Voice `u` of `t` sounds the melodic note `n` at velocity `vel`, begun from record `v` of `s`, and the
generator has advanced once (41_voice_oscillator.md R130 to R132, R134, R137). -/
def MelodicBegun (s t : State) (u : Nat) (n vel : Byte) (v : Voice) : Prop :=
  t.lfsr = lfsrNext s.lfsr ∧ t.waitTicks = s.waitTicks ∧ t.scorePlaying = s.scorePlaying ∧
  t.activity = s.activity ∧ SameControl s t ∧ OtherVoices u s t ∧
  ∃ w f, t.voices[u]? = some w ∧
    s.cfg.params.noteFreq[max s.cfg.params.noteMin (min n.toNat s.cfg.params.noteMax) - s.cfg.params.noteMin]? =
      some f ∧
    w.playing = true ∧ w.perc = false ∧ w.actRef = v.instrSel ∧ w.instrSel = v.instrSel ∧
    w.inc.toNat = f.toNat * 65536 / s.cfg.params.fsHz ∧
    w.phase.toNat = (lfsrNext s.lfsr).toNat * 2 ^ 24 ∧
    w.vscale.toNat = max 1 (min vel.toNat 127) ∧ w.endIdx = 0 ∧
    (s.cfg.params.envelopeEn = true →
      ∀ i, s.cfg.params.instr[v.instrSel.toNat]? = some i → EnvelopeBegins i w) ∧
    (s.cfg.params.envelopeEn = false →
      w.envState = .sustain ∧ w.envLevel.toNat = 2 ^ 30 ∧ w.envInc.toInt = 0 ∧ w.envCount = 0)

/-- Voice `u` of `t` sounds drum `d` with row `r` at velocity `vel`, begun from record `v` of `s`
(41_voice_oscillator.md R130, R131, R133, R134, R138). -/
def DrumBegun (s t : State) (u : Nat) (d : Byte) (r : Drum) (vel : Byte) (v : Voice) : Prop :=
  t.lfsr = s.lfsr ∧ t.waitTicks = s.waitTicks ∧ t.scorePlaying = s.scorePlaying ∧
  t.activity = s.activity ∧ SameControl s t ∧ OtherVoices u s t ∧
  ∃ w, t.voices[u]? = some w ∧
    w.playing = true ∧ w.perc = true ∧ w.actRef = d ∧ w.instrSel = v.instrSel ∧
    w.inc.toNat = r.freq.toNat * 65536 / s.cfg.params.fsHz ∧ w.phase = 0 ∧ w.endIdx = r.endIdx ∧
    w.vscale.toNat = max 1 (min vel.toNat 127) ∧
    w.envState = .idle ∧ w.envLevel = 0 ∧ w.envInc = 0 ∧ w.envCount = 0

/-- One voice's contribution, each multiplication followed by its own floor shift
(43_mixer.md R180 to R182). -/
def voicePart (c : Config) (v : Voice) : Int :=
  if v.perc then osc c v * v.vscale.toNat / 2 ^ 7
  else osc c v * ((v.envLevel.toNat / 2 ^ 14 : Nat) : Int) / 2 ^ 16 * v.vscale.toNat / 2 ^ 7

/-- A header is present at `base` (30_encoding.md R92). -/
def HeaderPresent (c : Config) (m : Memory) (base : Word) : Prop :=
  m.read base = c.params.hdrSig0 ∧ m.read (base + 1) = c.params.hdrSig1 ∧ 6 ≤ (m.read (base + 2)).toNat

/-- The place of an envelope state in the order Delay, Attack, Hold, Decay, Sustain, Release, Idle
(42_envelope.md R174). -/
def envRank : EnvState → Nat
  | .delay => 1
  | .attack => 2
  | .hold => 3
  | .decay => 4
  | .sustain => 5
  | .release => 6
  | .idle => 7

/-- The envelope registers of `w` are those left by the entry procedure that the timed state `e` leaves to
(42_envelope.md R162, R170, R173): name, level, increment and count. -/
def LeftTo (i : Instrument) (e : EnvState) (w : Voice) : Prop :=
  match e with
  | .delay => AttackBegins i w
  | .attack => HoldBegins i w
  | .hold => DecayBegins i w
  | .decay => SustainBegins i w
  | .release => w.envState = .idle ∧ w.envLevel = 0 ∧ w.envInc = 0 ∧ w.envCount = 0
  | .sustain | .idle => False

/-- `k` advance stages of one voice. -/
def advances (c : Config) : Nat → Voice → Voice
  | 0, v => v
  | k + 1, v => advances c k (advanceVoice c v)

/-- `c` and `c'` differ in BLOCK alone. -/
def SameButBlock (c c' : Config) : Prop := { c.params with block := c'.params.block } = c'.params

/-- The architectural registers and the score of `s` and `t` agree (10_state.md R20). -/
def SameMachine (s t : State) : Prop :=
  SameButBlock s.cfg t.cfg ∧ t.score = s.score ∧ t.voices = s.voices ∧ t.cursor = s.cursor ∧
  t.startPtr = s.startPtr ∧ t.waitTicks = s.waitTicks ∧ t.scorePlaying = s.scorePlaying ∧
  t.volPresent = s.volPresent ∧ t.nv = s.nv ∧ t.prevActive = s.prevActive ∧ t.lfsr = s.lfsr

/-- The host will only render and ask. -/
def HostOnlyRenders (s : State) : Prop := ∀ op ∈ s.script, op = .render ∨ op = .isPlaying

end Sys2Proof.Claims

open Sys2Proof Sys2Proof.Machine Sys2Proof.Claims

/-! Encoding. -/

/-- Decoding the encoding of a command that is well formed under the mode gives it back, whatever bytes
follow (30_encoding.md R80 to R86). -/
def Obligations.DecodeOfEncode : Prop :=
  ∀ (vol : Bool) (i : Instr) (rest : List Byte), WellFormed vol i = true →
    decode vol (encode i ++ rest) = .ok (i, rest)

/-- What the decoder accepts is exactly the encoding of the command it reads: no bit is dropped, and the
command is well formed under the mode (30_encoding.md R80 to R86). -/
def Obligations.EncodeOfDecode : Prop :=
  ∀ (vol : Bool) (bytes : List Byte) (i : Instr) (rest : List Byte), decode vol bytes = .ok (i, rest) →
    encode i ++ rest = bytes ∧ WellFormed vol i = true

/-- R86: every first byte selects exactly one row of the opcode map, with its format's operands. -/
def Obligations.FirstByteSelectsOneRow : Prop :=
  ∀ (vol : Bool) (b0 b1 b2 : Byte) (rest : List Byte),
    (b0.toNat < 0x80 → ∃ w, decode vol (b0 :: b1 :: b2 :: rest) = .ok (.wait w, b2 :: rest)) ∧
    (0x80 ≤ b0.toNat → b0.toNat < 0x90 →
      decode vol (b0 :: b1 :: b2 :: rest) = .ok (.noteOff (BitVec.ofNat 4 b0.toNat), b1 :: b2 :: rest)) ∧
    (0x90 ≤ b0.toNat → b0.toNat < 0xA0 →
      decode vol (b0 :: b1 :: b2 :: rest) =
        if vol then .ok (.noteOnVel (BitVec.ofNat 4 b0.toNat) b1 b2, rest)
        else .ok (.noteOn (BitVec.ofNat 4 b0.toNat) b1, b2 :: rest)) ∧
    (0xA0 ≤ b0.toNat → b0.toNat < 0xB0 →
      decode vol (b0 :: b1 :: b2 :: rest) = .ok (.rsvdA (BitVec.ofNat 4 b0.toNat), b1 :: b2 :: rest)) ∧
    (0xB0 ≤ b0.toNat → b0.toNat < 0xC0 →
      decode vol (b0 :: b1 :: b2 :: rest) = .ok (.rsvdB (BitVec.ofNat 4 b0.toNat), b1 :: b2 :: rest)) ∧
    (0xC0 ≤ b0.toNat → b0.toNat < 0xD0 →
      decode vol (b0 :: b1 :: b2 :: rest) = .ok (.instr (BitVec.ofNat 4 b0.toNat) b1, b2 :: rest)) ∧
    (0xD0 ≤ b0.toNat → b0.toNat < 0xE0 →
      decode vol (b0 :: b1 :: b2 :: rest) = .ok (.rsvdD (BitVec.ofNat 4 b0.toNat), b1 :: b2 :: rest)) ∧
    (0xE0 ≤ b0.toNat → b0.toNat < 0xF0 →
      decode vol (b0 :: b1 :: b2 :: rest) = .ok (.restart (BitVec.ofNat 4 b0.toNat), b1 :: b2 :: rest)) ∧
    (0xF0 ≤ b0.toNat →
      decode vol (b0 :: b1 :: b2 :: rest) = .ok (.stop (BitVec.ofNat 4 b0.toNat), b1 :: b2 :: rest))

/-- R83: the wait count is `(b0[6:0] << 8) | b1`, in 0..32767; the bytes 07 D0 give 2000. -/
def Obligations.WaitCountIsBigEndian : Prop :=
  (∀ (vol : Bool) (b0 b1 : Byte) (rest : List Byte), b0.toNat < 128 →
    ∃ w, decode vol (b0 :: b1 :: rest) = .ok (.wait w, rest) ∧
      w.toNat = b0.toNat % 128 * 256 + b1.toNat ∧ w.toNat ≤ 32767) ∧
  ∀ vol : Bool, decode vol [0x07#8, 0xD0#8] = .ok (.wait 2000#15, [])

/-- A few words written out from the spec decode to the commands they stand for (95_test_vectors.md V2 to V18). -/
def Obligations.SpecWordsDecode : Prop :=
  decode false [0x7F#8, 0xFF#8] = .ok (.wait 32767#15, []) ∧
  decode true [0x8F#8] = .ok (.noteOff 15#4, []) ∧
  decode false [0x93#8, 0x3C#8, 0x40#8] = .ok (.noteOn 3#4 60#8, [0x40#8]) ∧
  decode true [0x93#8, 0x3C#8, 0x40#8] = .ok (.noteOnVel 3#4 60#8 64#8, []) ∧
  decode false [0xC2#8, 0x01#8] = .ok (.instr 2#4 1#8, []) ∧
  decode false [0xA3#8] = .ok (.rsvdA 3#4, []) ∧
  decode false [0xB0#8] = .ok (.rsvdB 0#4, []) ∧
  decode false [0xDF#8] = .ok (.rsvdD 15#4, []) ∧
  decode true [0xE7#8] = .ok (.restart 7#4, []) ∧
  decode true [0xF0#8] = .ok (.stop 0#4, [])

/-- A step inside STEP runs the command that the bytes at the cursor decode to under `vol_present`
(40_score_interpreter.md R100, R101; 30_encoding.md R82): nothing is added around `exec`, which moves the
cursor itself. The second part says that some command is always there. -/
def Obligations.StepRunsTheDecodedCommand : Prop :=
  (∀ (s : State) (c : Caller) (i : Instr) (rest : List Byte), s.activity = .interp c →
    decode s.volPresent [s.score.read s.cursor, s.score.read (s.cursor + 1), s.score.read (s.cursor + 2)] =
      .ok (i, rest) →
    WellFormed s.volPresent i = true ∧ step s = exec i s) ∧
  ∀ s : State, ∃ i rest,
    decode s.volPresent [s.score.read s.cursor, s.score.read (s.cursor + 1), s.score.read (s.cursor + 2)] =
      .ok (i, rest)

/-- A word of the opcode table placed with `withFetchWord` is what the very next step runs (log entry 9). -/
def Obligations.TableWordRunsNext : Prop :=
  ∀ (s : State) (nbits w : Nat) (i : Instr), s.score.wf = true → decodeTableWord nbits w = some i →
    step (s.withFetchWord nbits w) = exec i (s.withFetchWord nbits w)

/-! Score commands: results, frames, completion. -/

/-- WAIT: `wait_ticks` is floor(W * FS_HZ / 1000), the product exact and the result in range, the cursor
moves by 2, STEP returns, and nothing else changes (40_score_interpreter.md R104). -/
def Obligations.WaitLoadsTheCountdown : Prop :=
  ∀ (ms : BitVec 15) (s : State), ∃ t, exec (.wait ms) s = .next t ∧
    t.waitTicks.toNat = ms.toNat * s.cfg.params.fsHz / 1000 ∧ t.cursor = s.cursor + 2 ∧ Returned s t ∧
    t.voices = s.voices ∧ t.lfsr = s.lfsr ∧ t.scorePlaying = s.scorePlaying ∧ SameControl s t

/-- NOTEON of a melodic note on a voice in range, in both forms: the voice is set up as R132 says, the
generator advances once, the cursor moves by the length of the form, and nothing else changes
(40_score_interpreter.md R106; 41_voice_oscillator.md R130 to R134, R137). -/
def Obligations.MelodicNoteOnBeginsTheNote : Prop :=
  ∀ (u : BitVec 4) (n vel : Byte) (s : State) (v : Voice),
    u.toNat < s.nv.toNat → s.voices[u.toNat]? = some v → n.toNat < 128 →
    (∃ t, exec (.noteOn u n) s = .next t ∧ t.cursor = s.cursor + 2 ∧
      MelodicBegun s t u.toNat n (BitVec.ofNat 8 s.cfg.params.defaultVelocity) v) ∧
    (∃ t, exec (.noteOnVel u n vel) s = .next t ∧ t.cursor = s.cursor + 3 ∧ MelodicBegun s t u.toNat n vel v)

/-- NOTEON of a percussion note with a drum mapped on a voice in range, in both forms
(40_score_interpreter.md R106; 41_voice_oscillator.md R130, R133, R134, R138). -/
def Obligations.PercussionNoteOnBeginsTheDrum : Prop :=
  ∀ (u : BitVec 4) (n vel d : Byte) (s : State) (v : Voice) (r : Drum),
    u.toNat < s.nv.toNat → s.voices[u.toNat]? = some v → 128 ≤ n.toNat →
    s.cfg.params.percussionEn = true → s.cfg.params.drumMap[n.toNat - 128]? = some d → d ≠ 0xFF#8 →
    s.cfg.params.drum[d.toNat]? = some r →
    (∃ t, exec (.noteOn u n) s = .next t ∧ t.cursor = s.cursor + 2 ∧
      DrumBegun s t u.toNat d r (BitVec.ofNat 8 s.cfg.params.defaultVelocity) v) ∧
    (∃ t, exec (.noteOnVel u n vel) s = .next t ∧ t.cursor = s.cursor + 3 ∧ DrumBegun s t u.toNat d r vel v)

/-- NOTEON that is ignored: a voice out of range (R103), or a percussion note with the option off or with no
drum mapped (R133). The operand bytes are passed over and nothing else changes. -/
def Obligations.IgnoredNoteOnMovesOnlyTheCursor : Prop :=
  ∀ (u : BitVec 4) (n vel : Byte) (s : State),
    (s.nv.toNat ≤ u.toNat ∨
      (128 ≤ n.toNat ∧
        (s.cfg.params.percussionEn = false ∨ s.cfg.params.drumMap[n.toNat - 128]? = some 0xFF#8))) →
    (∃ t, exec (.noteOn u n) s = .next t ∧ OnlyCursor s t (s.cursor + 2)) ∧
    (∃ t, exec (.noteOnVel u n vel) s = .next t ∧ OnlyCursor s t (s.cursor + 3))

/-- NOTEOFF: on a voice in range the note-off of R135, out of range nothing, and in both cases nothing but
the cursor besides (40_score_interpreter.md R107; 41_voice_oscillator.md R135; 42_envelope.md R171 to R173). -/
def Obligations.NoteOffReleasesOrSilences : Prop :=
  ∀ (u : BitVec 4) (s : State),
    (s.nv.toNat ≤ u.toNat → ∃ t, exec (.noteOff u) s = .next t ∧ OnlyCursor s t (s.cursor + 1)) ∧
    (∀ v, u.toNat < s.nv.toNat → s.voices[u.toNat]? = some v →
      ∃ t w, exec (.noteOff u) s = .next t ∧ t.cursor = s.cursor + 1 ∧ t.voices[u.toNat]? = some w ∧
        NotedOff s.cfg v w ∧ OtherVoices u.toNat s t ∧ t.lfsr = s.lfsr ∧ t.waitTicks = s.waitTicks ∧
        t.scorePlaying = s.scorePlaying ∧ t.activity = s.activity ∧ SameControl s t)

/-- INSTR: `V[t].instr_sel <- PATCH_MAP[id]` when t < nv and id < 128, and no other field of the voice; else
ignored (40_score_interpreter.md R108). -/
def Obligations.InstrSelectsForTheNextNote : Prop :=
  ∀ (u : BitVec 4) (id : Byte) (s : State),
    ((s.nv.toNat ≤ u.toNat ∨ 128 ≤ id.toNat) →
      ∃ t, exec (.instr u id) s = .next t ∧ OnlyCursor s t (s.cursor + 2)) ∧
    (∀ v, u.toNat < s.nv.toNat → s.voices[u.toNat]? = some v → id.toNat < 128 →
      ∃ t k, exec (.instr u id) s = .next t ∧ s.cfg.params.patchMap[id.toNat]? = some k ∧
        t.cursor = s.cursor + 2 ∧ t.voices[u.toNat]? = some { v with instrSel := k } ∧
        OtherVoices u.toNat s t ∧ t.lfsr = s.lfsr ∧ t.waitTicks = s.waitTicks ∧
        t.scorePlaying = s.scorePlaying ∧ t.activity = s.activity ∧ SameControl s t)

/-- RESTART: `cursor <- start_ptr`, no other state, and STEP goes on there in the same invocation: the next
step runs the command at `start_ptr` (40_score_interpreter.md R109). -/
def Obligations.RestartGoesToStartPtr : Prop :=
  ∀ (x : BitVec 4) (s : State), ∃ t, exec (.restart x) s = .next t ∧ OnlyCursor s t s.startPtr ∧
    ∀ c i rest, s.activity = .interp c →
      decode s.volPresent
          [s.score.read s.startPtr, s.score.read (s.startPtr + 1), s.score.read (s.startPtr + 2)] =
        .ok (i, rest) →
      step t = exec i t

/-- STOP: the note-off of R135 on every voice that exists, `score_playing <- 0`, `wait_ticks <- 0`, the cursor
moves by 1, STEP returns, and nothing else changes (40_score_interpreter.md R110). -/
def Obligations.StopHaltsTheScore : Prop :=
  ∀ (x : BitVec 4) (s : State), ∃ t, exec (.stop x) s = .next t ∧ t.cursor = s.cursor + 1 ∧
    t.scorePlaying = false ∧ t.waitTicks = 0 ∧ Returned s t ∧ t.voices.length = s.voices.length ∧
    (∀ (u : Nat) (v : Voice), s.voices[u]? = some v → ∃ w, t.voices[u]? = some w ∧ NotedOff s.cfg v w) ∧
    t.lfsr = s.lfsr ∧ SameControl s t

/-- R111: the reserved commands change nothing but the cursor, by one byte, and STEP goes on with the next byte.
The second part says the same of a step at any of the 48 first bytes. -/
def Obligations.ReservedCommandsDoNothing : Prop :=
  (∀ (x : BitVec 4) (s : State),
    (∃ t, exec (.rsvdA x) s = .next t ∧ OnlyCursor s t (s.cursor + 1)) ∧
    (∃ t, exec (.rsvdB x) s = .next t ∧ OnlyCursor s t (s.cursor + 1)) ∧
    (∃ t, exec (.rsvdD x) s = .next t ∧ OnlyCursor s t (s.cursor + 1))) ∧
  ∀ (s : State) (c : Caller), s.activity = .interp c →
    (0xA0 ≤ (s.score.read s.cursor).toNat ∧ (s.score.read s.cursor).toNat ≤ 0xBF ∨
     0xD0 ≤ (s.score.read s.cursor).toNat ∧ (s.score.read s.cursor).toNat ≤ 0xDF) →
    ∃ t, step s = .next t ∧ OnlyCursor s t (s.cursor + 1)

/-- The table of 40_score_interpreter.md section 3 (an inference of the spec, R112): where the cursor stands
after each command, and whether STEP goes on. Every command completes in every state. -/
def Obligations.CursorAfterEachCommand : Prop :=
  ∀ s : State,
    (∀ ms, ∃ t, exec (.wait ms) s = .next t ∧ t.cursor = s.cursor + 2 ∧ Returned s t) ∧
    (∀ u n, ∃ t, exec (.noteOn u n) s = .next t ∧ t.cursor = s.cursor + 2 ∧ t.activity = s.activity) ∧
    (∀ u n vel, ∃ t, exec (.noteOnVel u n vel) s = .next t ∧ t.cursor = s.cursor + 3 ∧
      t.activity = s.activity) ∧
    (∀ u, ∃ t, exec (.noteOff u) s = .next t ∧ t.cursor = s.cursor + 1 ∧ t.activity = s.activity) ∧
    (∀ u id, ∃ t, exec (.instr u id) s = .next t ∧ t.cursor = s.cursor + 2 ∧ t.activity = s.activity) ∧
    (∀ x, ∃ t, exec (.restart x) s = .next t ∧ t.cursor = s.startPtr ∧ t.activity = s.activity) ∧
    (∀ x, ∃ t, exec (.stop x) s = .next t ∧ t.cursor = s.cursor + 1 ∧ Returned s t ∧
      t.scorePlaying = false) ∧
    (∀ x, ∃ t, exec (.rsvdA x) s = .next t ∧ t.cursor = s.cursor + 1 ∧ t.activity = s.activity) ∧
    (∀ x, ∃ t, exec (.rsvdB x) s = .next t ∧ t.cursor = s.cursor + 1 ∧ t.activity = s.activity) ∧
    (∀ x, ∃ t, exec (.rsvdD x) s = .next t ∧ t.cursor = s.cursor + 1 ∧ t.activity = s.activity)

/-- What a score can affect (45_control_surface.md R221, an inference of the spec): no command writes the
registers only START writes; `score_playing` only goes to 0; `lfsr` changes only by a melodic note-on;
where no voice at or above `nv` plays, no command changes such a voice. -/
def Obligations.ScoreCannotTouchControl : Prop :=
  ∀ (i : Instr) (s t : State), exec i s = .next t →
    SameControl s t ∧ (t.scorePlaying = true → s.scorePlaying = true) ∧
    (t.lfsr ≠ s.lfsr → ∃ u n, n.toNat < 128 ∧ (i = .noteOn u n ∨ ∃ vel, i = .noteOnVel u n vel)) ∧
    ((∀ v ∈ s.voices.drop s.nv.toNat, v.playing = false) →
      ∀ u, s.nv.toNat ≤ u → t.voices[u]? = s.voices[u]?)

/-! Generator, oscillator, interpolator, envelope. -/

/-- The generator of R136: never 0 from a nonzero value, back at 0x01 after exactly 255 steps, and every value
1..255 visited once (41_voice_oscillator.md section 3). -/
def Obligations.GeneratorHasFullPeriod : Prop :=
  (∀ x : BitVec 8, x ≠ 0 → lfsrNext x ≠ 0) ∧
  Nat.iterate lfsrNext 255 0x01#8 = 0x01#8 ∧
  (∀ x : BitVec 8, x ≠ 0 → ∃ k, k < 255 ∧ Nat.iterate lfsrNext k 0x01#8 = x) ∧
  (List.range 20).map (fun k => Nat.iterate lfsrNext (k + 1) 0x01#8) =
    [0xB8#8, 0x5C#8, 0x2E#8, 0x17#8, 0xB3#8, 0xE1#8, 0xC8#8, 0x64#8, 0x32#8, 0x19#8,
     0xB4#8, 0x5A#8, 0x2D#8, 0xAE#8, 0x57#8, 0x93#8, 0xF1#8, 0xC0#8, 0x60#8, 0x30#8]

/-- The interpolator of R139 is its formula, equals `s0` at fraction 0, lies between its two samples, and for a
rising pair never reaches the second (41_voice_oscillator.md section 5). -/
def Obligations.InterpolationStaysBetween : Prop :=
  ∀ (s0 s1 : Sample) (fr : BitVec 16),
    interp s0 s1 fr = s0.toInt + (s1.toInt - s0.toInt) * fr.toNat / 2 ^ 16 ∧
    interp s0 s1 0 = s0.toInt ∧
    min s0.toInt s1.toInt ≤ interp s0 s1 fr ∧ interp s0 s1 fr ≤ max s0.toInt s1.toInt ∧
    (s0.toInt < s1.toInt → interp s0 s1 fr < s1.toInt)

/-- The waveform read of a voice: index and fraction from the phase in the format of its mode, the melodic
index modulo 256 (41_voice_oscillator.md R140, R141). -/
def Obligations.WaveformReadFollowsThePhase : Prop :=
  ∀ (c : Config) (v : Voice) (s0 s1 : Sample),
    (v.perc = false → ∀ i w, c.params.instr[v.actRef.toNat]? = some i → c.params.wave[i.wave.toNat]? = some w →
      w[v.phase.toNat / 2 ^ 24]? = some s0 → w[(v.phase.toNat / 2 ^ 24 + 1) % 256]? = some s1 →
      osc c v = s0.toInt + (s1.toInt - s0.toInt) * ((v.phase.toNat / 2 ^ 8 % 2 ^ 16 : Nat) : Int) / 2 ^ 16) ∧
    (v.perc = true → ∀ d, c.params.drum[v.actRef.toNat]? = some d →
      d.data[v.phase.toNat / 2 ^ 16]? = some s0 → d.data[v.phase.toNat / 2 ^ 16 + 1]? = some s1 →
      osc c v = s0.toInt + (s1.toInt - s0.toInt) * ((v.phase.toNat % 2 ^ 16 : Nat) : Int) / 2 ^ 16)

/-- Velocity (41_voice_oscillator.md R131): the scale is the velocity clamped to 1..127, so it never falls
when the velocity rises, is least at input 1 and greatest at input 127. -/
def Obligations.VelocityScaleIsMonotone : Prop :=
  (∀ vel : Byte, (velocityScale vel).toNat = max 1 (min vel.toNat 127)) ∧
  (∀ a b : Byte, a.toNat ≤ b.toNat → (velocityScale a).toNat ≤ (velocityScale b).toNat) ∧
  (velocityScale 1).toNat = 1 ∧ (velocityScale 127).toNat = 127

/-- The wait conversion (40_score_interpreter.md R104): monotone in the count, exact when the product is a
multiple of 1000, never longer than asked. -/
def Obligations.WaitConversionIsMonotone : Prop :=
  ∀ (c : Config) (a b : BitVec 15),
    (a.toNat ≤ b.toNat → (waitToTicks c a).toNat ≤ (waitToTicks c b).toNat) ∧
    (1000 ∣ a.toNat * c.params.fsHz → (waitToTicks c a).toNat * 1000 = a.toNat * c.params.fsHz) ∧
    (waitToTicks c a).toNat * 1000 ≤ a.toNat * c.params.fsHz ∧
    a.toNat * c.params.fsHz < ((waitToTicks c a).toNat + 1) * 1000

/-- A timed envelope segment lasts exactly `env_count` ticks: for every k below it, the voice after k advances
is still in the segment, its level moved by k increments, and after `env_count` advances it has the state, the
level, the increment and the count of the entry procedure the segment leaves to, and plays on but after
Release (42_envelope.md R162, R164 to R167, R169 to R171, R173). -/
def Obligations.EnvelopeSegmentLastsItsCount : Prop :=
  ∀ (c : Config) (v : Voice) (i : Instrument),
    v.Ok c → v.melodic = true → v.envState.timed = true → c.params.instr[v.actRef.toNat]? = some i →
    (∀ k, k < v.envCount.toNat →
      (advances c k v).envState = v.envState ∧ (advances c k v).playing = true ∧
      ((advances c k v).envLevel.toNat : Int) = v.envLevel.toNat + k * v.envInc.toInt ∧
      (advances c k v).envCount.toNat = v.envCount.toNat - k) ∧
    LeftTo i v.envState (advances c v.envCount.toNat v) ∧
    ((advances c v.envCount.toNat v).playing = true ↔ v.envState ≠ .release)

/-- The states a sounding note visits are in the order Delay, Attack, Hold, Decay, Sustain, Release, Idle
(42_envelope.md R174, an inference of the spec): neither the advance nor a note-off ever goes back. -/
def Obligations.EnvelopeNeverGoesBack : Prop :=
  ∀ (c : Config) (v : Voice), v.Ok c → v.melodic = true →
    envRank v.envState ≤ envRank (advanceVoice c v).envState ∧
    envRank v.envState ≤ envRank (noteOffVoice c v).envState ∧
    ((advanceVoice c v).playing = false → v.envState = .release)

/-- A note-off on a voice that is idle or already in Release changes nothing, so a second note-off never does
(41_voice_oscillator.md R135). -/
def Obligations.NoteOffIsIdempotent : Prop :=
  ∀ (c : Config) (v : Voice), noteOffVoice c (noteOffVoice c v) = noteOffVoice c v

/-- A percussion note with increment inc > 0 and end index end, not stopped, is mixed in exactly the first k
ticks with (k - 1) * inc < end * 65536 (41_voice_oscillator.md R143 and its inference): after k advances it
still plays when k * inc < end * 65536, and never again after that. -/
def Obligations.PercussionPlaysOnce : Prop :=
  ∀ (c : Config) (v : Voice) (k : Nat),
    v.percussive = true → v.phase = 0 → 1 ≤ v.endIdx.toNat →
    ((advances c k v).playing = true ↔ k * v.inc.toNat < v.endIdx.toNat * 65536) ∧
    ((advances c k v).playing = true → (advances c k v).phase.toNat = k * v.inc.toNat)

/-! Mixer and tick. -/

/-- Envelope and velocity scaling keep a contribution between the waveform sample and 0, and inside -32512..32511
(43_mixer.md R181, R182). -/
def Obligations.ContributionIsBounded : Prop :=
  ∀ (c : Config) (v : Voice), v.envLevel.toNat ≤ 2 ^ 30 →
    contrib c v = voicePart c v ∧
    min (osc c v) 0 ≤ envScaled c v ∧ envScaled c v ≤ max (osc c v) 0 ∧
    min (envScaled c v) 0 ≤ contrib c v ∧ contrib c v ≤ max (envScaled c v) 0 ∧
    (-32512 ≤ contrib c v ∧ contrib c v ≤ 32511) ∧
    (v.perc = false → v.envLevel.toNat = 2 ^ 30 → envScaled c v = osc c v) ∧
    (v.perc = false → v.envLevel.toNat = 0 → envScaled c v = 0)

/-- Stages 2 and 3 of a tick: `OUT[i]` is the sum of the contributions of the playing voices below `nv`, times the
one attenuation factor, shifted and saturated; `prev_active` is their number; every voice is advanced; nothing
else changes but the place in the block (43_mixer.md R184 to R189; 44_render_step.md R196, R199, R202). -/
def Obligations.TickMixesThenAdvances : Prop :=
  ∀ (s : State) (i g : Nat), s.activity = .mix i → i < s.out.length → s.voices.length ≤ 16 →
    s.cfg.params.atten[if s.cfg.params.dynamicAtten then s.prevActive.toNat else s.nv.toNat]? = some g →
    ∃ t x, step s = .next t ∧ t.out = s.out.set i (some x) ∧
      x.toInt = max (-32768) (min 32767
        ((((s.voices.take s.nv.toNat).filter (·.playing)).map (voicePart s.cfg)).sum * g / 2 ^ 8)) ∧
      t.prevActive.toNat = ((s.voices.take s.nv.toNat).filter (·.playing)).length ∧
      t.voices = s.voices.map (advanceVoice s.cfg) ∧
      t.activity = (if i + 1 < s.cfg.params.block then .tick (i + 1) else .idle) ∧
      t.cursor = s.cursor ∧ t.startPtr = s.startPtr ∧ t.waitTicks = s.waitTicks ∧
      t.scorePlaying = s.scorePlaying ∧ t.volPresent = s.volPresent ∧ t.nv = s.nv ∧ t.lfsr = s.lfsr ∧
      t.cfg = s.cfg ∧ t.script = s.script ∧ t.replies = s.replies ∧ ∀ a, t.score.read a = s.score.read a

/-- Silence is exactly 0, whatever the tables hold: no voice below `nv` playing gives the sample 0
(43_mixer.md R183, R189). -/
def Obligations.SilenceIsZero : Prop :=
  ∀ (s : State) (i : Nat), s.activity = .mix i → i < s.out.length →
    (∀ v ∈ s.voices.take s.nv.toNat, v.playing = false) →
    ∃ t, step s = .next t ∧ t.out[i]? = some (some 0) ∧ t.prevActive = 0

/-- R183: a voice that is not playing contributes nothing to the sum, and whatever other record that does not
play stands in its place, the tick writes the same sample and the same `prev_active`. -/
def Obligations.SilentVoicesAreNotRead : Prop :=
  (∀ s : State, s.acc =
    ((s.voices.take s.nv.toNat).map fun v => if v.playing then voicePart s.cfg v else 0).sum) ∧
  ∀ (s : State) (i u : Nat) (v w : Voice), s.activity = .mix i → s.voices[u]? = some v →
    v.playing = false → w.playing = false →
    ∃ t t', step s = .next t ∧ step { s with voices := s.voices.set u w } = .next t' ∧
      t'.out = t.out ∧ t'.prevActive = t.prevActive

/-- Polyphony attenuation never rises with the number of voices, in any configuration, and is at most unity
(20_memory.md R68; 95_test_vectors.md T5). -/
def Obligations.AttenuationNeverRises : Prop :=
  ∀ (c : Config) (j k : Nat), j ≤ k → k ≤ c.params.nvoices →
    ∃ a b, c.params.atten[j]? = some a ∧ c.params.atten[k]? = some b ∧ b ≤ a ∧ a ≤ 256 ∧
      gain c j = a ∧ gain c k = b

/-- With the default attenuation table and static attenuation the mix never leaves the 16-bit range, so
saturation never acts (43_mixer.md R190, an inference of the spec). -/
def Obligations.DefaultTableNeverSaturates : Prop :=
  ∀ s : State, s.Ok → s.cfg.params.dynamicAtten = false →
    s.cfg.params.atten = defaultAtten s.cfg.params.nvoices →
    -32768 ≤ asr (s.acc * gain s.cfg s.attenIndex) 8 ∧ asr (s.acc * gain s.cfg s.attenIndex) 8 ≤ 32767 ∧
    s.mixSample.toInt = asr (s.acc * gain s.cfg s.attenIndex) 8

/-- R197, stage 1 of a tick: while the score plays an active countdown goes down by one and STEP is invoked when
it reaches 0, only then; a countdown that is already 0, or a score that is not playing, changes nothing. STEP
goes on to its next command, or returns: after a WAIT with the score playing and the new count, after a STOP
with the score stopped and no countdown. The tick then goes on to its mix, and the mix never invokes STEP, so
a tick does it at most once. -/
def Obligations.CountdownInvokesStepAtZero : Prop :=
  (∀ (s : State) (i : Nat), s.activity = .interp (.tick i) → s.scorePlaying = true →
    ∃ t, step s = .next t ∧
      (∀ ms, s.fetched = .wait ms →
        t.activity = .mix i ∧ t.scorePlaying = true ∧
        t.waitTicks.toNat = ms.toNat * s.cfg.params.fsHz / 1000) ∧
      (∀ x, s.fetched = .stop x → t.activity = .mix i ∧ t.scorePlaying = false ∧ t.waitTicks = 0) ∧
      ((∀ ms, s.fetched ≠ .wait ms) → (∀ x, s.fetched ≠ .stop x) →
        t.activity = .interp (.tick i) ∧ t.scorePlaying = true ∧ t.waitTicks = s.waitTicks)) ∧
  (∀ (s t : State) (i : Nat), s.activity = .mix i → step s = .next t →
    t.waitTicks = s.waitTicks ∧ t.cursor = s.cursor ∧
      t.activity = if i + 1 < s.cfg.params.block then .tick (i + 1) else .idle) ∧
  ∀ (s : State) (i : Nat), s.activity = .tick i →
    ∃ t, step s = .next t ∧ t.voices = s.voices ∧ t.cursor = s.cursor ∧ t.lfsr = s.lfsr ∧
      t.scorePlaying = s.scorePlaying ∧ SameControl s t ∧
      (s.scorePlaying = true → s.waitTicks ≠ 0 →
        t.waitTicks.toNat + 1 = s.waitTicks.toNat ∧
        (s.waitTicks.toNat = 1 → t.activity = .interp (.tick i)) ∧
        (s.waitTicks.toNat ≠ 1 → t.activity = .mix i)) ∧
      ((s.scorePlaying = false ∨ s.waitTicks = 0) → t.waitTicks = s.waitTicks ∧ t.activity = .mix i)

/-- A voice with `playing = 0` is left as it is by the advance stage, and a melodic voice's phase wraps modulo 2^32
(41_voice_oscillator.md R142, R144; 44_render_step.md R199). -/
def Obligations.AdvanceMovesOnlyPlayingVoices : Prop :=
  ∀ (c : Config) (v : Voice),
    (v.playing = false → advanceVoice c v = v) ∧
    (v.melodic = true → (advanceVoice c v).phase = v.phase + v.inc) ∧
    (v.percussive = true →
      (advanceVoice c v).phase = v.phase + v.inc ∧
      ((advanceVoice c v).playing = true ↔ (v.phase.toNat + v.inc.toNat) / 65536 < v.endIdx.toNat)) ∧
    (advanceVoice c v).instrSel = v.instrSel ∧ (advanceVoice c v).perc = v.perc ∧
    (advanceVoice c v).inc = v.inc ∧ (advanceVoice c v).vscale = v.vscale ∧
    (advanceVoice c v).actRef = v.actRef ∧ (advanceVoice c v).endIdx = v.endIdx

/-- BLOCK only groups ticks (44_render_step.md R201, an inference of the spec): two machines that agree but for
BLOCK and the tick's number stay in agreement through every step of a tick, and write the same sample. -/
def Obligations.TickIgnoresBlockAndIndex : Prop :=
  ∀ (s t s' t' : State) (i j : Nat), SameMachine s t → step s = .next s' → step t = .next t' →
    (s.activity = .tick i → t.activity = .tick j →
      SameMachine s' t' ∧
      ((s'.activity = .interp (.tick i) ∧ t'.activity = .interp (.tick j)) ∨
       (s'.activity = .mix i ∧ t'.activity = .mix j))) ∧
    (s.activity = .interp (.tick i) → t.activity = .interp (.tick j) →
      SameMachine s' t' ∧
      ((s'.activity = .interp (.tick i) ∧ t'.activity = .interp (.tick j)) ∨
       (s'.activity = .mix i ∧ t'.activity = .mix j))) ∧
    (s.activity = .mix i → t.activity = .mix j →
      SameMachine s' t' ∧ ∃ x, s'.out = s.out.set i (some x) ∧ t'.out = t.out.set j (some x))

/-! Transactions. -/

/-- R210, R211, R216: START resets every voice, clears `prev_active`, `wait_ticks`, parses the header, sets the
mode, the start pointer and the cursor, sets `score_playing`, and invokes STEP; `lfsr`, the output block and
the configuration are not touched. -/
def Obligations.StartSetsUpTheScore : Prop :=
  ∀ (s : State) (base : Word) (override : Byte) (rest : List HostOp),
    s.activity = .idle → s.script = .start base override :: rest →
    ∃ t, step s = .next t ∧ t.script = rest ∧
      (HeaderPresent s.cfg s.score base →
        t.volPresent = (s.score.read (base + 3)).getLsbD 7 ∧
        t.startPtr = base + (s.score.read (base + 2)).setWidth 32 ∧
        t.nv.toNat = max 1 (min (if override = 0 then (s.score.read (base + 5)).toNat else override.toNat)
          s.cfg.params.nvoices)) ∧
      (¬ HeaderPresent s.cfg s.score base →
        t.volPresent = s.cfg.params.defaultVolumePresent ∧ t.startPtr = base ∧
        t.nv.toNat = max 1 (min (if override = 0 then s.cfg.params.nvoices else override.toNat)
          s.cfg.params.nvoices)) ∧
      t.cursor = t.startPtr ∧ t.scorePlaying = true ∧ t.waitTicks = 0 ∧ t.prevActive = 0 ∧
      t.activity = .interp .start ∧ t.voices.length = s.cfg.params.nvoices ∧
      (∀ v ∈ t.voices, v.playing = false ∧ v.perc = false ∧ v.phase = 0 ∧ v.inc = 0 ∧ v.vscale = 0 ∧
        v.instrSel.toNat = s.cfg.params.defaultInstrument ∧ v.actRef = 0 ∧ v.endIdx = 0 ∧
        v.envState = .idle ∧ v.envLevel = 0 ∧ v.envInc = 0 ∧ v.envCount = 0) ∧
      t.lfsr = s.lfsr ∧ t.out = s.out ∧ t.cfg = s.cfg ∧ t.replies = s.replies ∧
      ∀ a, t.score.read a = s.score.read a

/-- R213: the raw voice count is the override when it is not 0, else the header's count when a header is
present, else NVOICES; `nv` is that clamped to 1..NVOICES; it alone selects the static attenuation factor, and
the first tick of dynamic mode uses `ATTEN[0]`; commands for voices that do not exist are ignored. -/
def Obligations.VoiceCountIsClamped : Prop :=
  ∀ (s : State) (base : Word) (override : Byte) (rest : List HostOp),
    s.activity = .idle → s.script = .start base override :: rest →
    ∃ t, step s = .next t ∧ (1 ≤ t.nv.toNat ∧ t.nv.toNat ≤ s.cfg.params.nvoices) ∧
      (override ≠ 0 → t.nv.toNat = max 1 (min override.toNat s.cfg.params.nvoices)) ∧
      (override = 0 → HeaderPresent s.cfg s.score base →
        t.nv.toNat = max 1 (min (s.score.read (base + 5)).toNat s.cfg.params.nvoices)) ∧
      (override = 0 → ¬ HeaderPresent s.cfg s.score base → t.nv.toNat = s.cfg.params.nvoices) ∧
      (s.cfg.params.dynamicAtten = false → t.attenIndex = t.nv.toNat) ∧
      (s.cfg.params.dynamicAtten = true → t.attenIndex = 0) ∧
      (∀ (u : BitVec 4) (n vel : Byte), s.cfg.params.nvoices ≤ u.toNat →
        (∃ r, exec (.noteOn u n) t = .next r ∧ OnlyCursor t r (t.cursor + 2)) ∧
        (∃ r, exec (.noteOnVel u n vel) t = .next r ∧ OnlyCursor t r (t.cursor + 3)) ∧
        (∃ r, exec (.noteOff u) t = .next r ∧ OnlyCursor t r (t.cursor + 1)) ∧
        (∃ r, exec (.instr u n) t = .next r ∧ OnlyCursor t r (t.cursor + 2))) ∧
      (s.cfg.params.nvoices = 16 →
        (override = 0 → HeaderPresent s.cfg s.score base → s.score.read (base + 5) = 2 → t.nv.toNat = 2) ∧
        (override = 4 → t.nv.toNat = 4) ∧
        (override = 0 → ¬ HeaderPresent s.cfg s.score base → t.nv.toNat = 16) ∧
        (override = 200 → t.nv.toNat = 16) ∧
        (override = 0 → HeaderPresent s.cfg s.score base → s.score.read (base + 5) = 0 → t.nv.toNat = 1))

/-- R217: STOP() does nothing when the score is not playing; else it note-offs every voice and clears
`score_playing` and `wait_ticks`, and the cursor does not move; the STOP command does the same but for the
cursor. A second STOP() changes nothing. -/
def Obligations.StopTransactionIsIdempotent : Prop :=
  ∀ (s : State) (rest : List HostOp), s.activity = .idle → s.script = .stop :: rest →
    ∃ t, step s = .next t ∧
      (s.scorePlaying = false → t = { s with script := rest }) ∧
      (s.scorePlaying = true →
        t.voices.length = s.voices.length ∧
        (∀ (u : Nat) (v : Voice), s.voices[u]? = some v → ∃ w, t.voices[u]? = some w ∧ NotedOff s.cfg v w) ∧
        t = { s with script := rest, voices := t.voices, scorePlaying := false, waitTicks := 0 } ∧
        ∀ x, ∃ u, exec (.stop x) s = .next u ∧ t = { u with script := rest, cursor := s.cursor }) ∧
      ∀ rest', rest = .stop :: rest' → step t = .next { t with script := rest' }

/-- R219: ISPLAYING() returns `score_playing` and writes nothing; after reset it returns 0. -/
def Obligations.IsPlayingReturnsScorePlaying : Prop :=
  (∀ (s : State) (rest : List HostOp), s.activity = .idle → s.script = .isPlaying :: rest →
    step s = .next { s with script := rest, replies := s.replies ++ [s.scorePlaying] }) ∧
  ∀ (c : Config) (m : Memory) (rest : List HostOp),
    ∃ t, step (State.resetWith c m (.isPlaying :: rest)) = .next t ∧ t.replies = [false]

/-- A byte the host writes between transactions is what the next read of that address gives, and every other
address reads as before; no register changes (20_memory.md R76, R60). The host's write as an entry of the script is
the model's choice (log entry 11), the canonical form too (log entry 2). -/
def Obligations.HostWriteIsSeenByTheNextRead : Prop :=
  ∀ (s : State) (a : Word) (b : Byte) (rest : List HostOp),
    s.activity = .idle → s.script = .writeScore a b :: rest → s.score.wf = true →
    ∃ t, step s = .next t ∧ t.score.wf = true ∧ t.score.read a = b ∧
      (∀ a', a' ≠ a → t.score.read a' = s.score.read a') ∧
      t = { s with script := rest, score := t.score }

/-- The canonical form of the score memory: over one padding byte, memories that read the same at every address
are the same data (the model's choice of representation, log entry 2; 20_memory.md R60). -/
def Obligations.EqualReadsAreEqualMemories : Prop :=
  ∀ m m' : Memory, m.wf = true → m'.wf = true → m.pad = m'.pad → (∀ a, m.read a = m'.read a) → m = m'

/-- R43: the reset value of every register, for every configuration. -/
def Obligations.ResetValues : Prop :=
  ∀ (c : Config) (m : Memory) (ops : List HostOp),
    (State.resetWith c m ops).voices.length = c.params.nvoices ∧
    (∀ v ∈ (State.resetWith c m ops).voices, v.playing = false ∧ v.perc = false ∧ v.phase = 0 ∧ v.inc = 0 ∧
      v.vscale = 0 ∧ v.instrSel.toNat = c.params.defaultInstrument ∧ v.actRef = 0 ∧ v.endIdx = 0 ∧
      v.envState = .idle ∧ v.envLevel = 0 ∧ v.envInc = 0 ∧ v.envCount = 0) ∧
    (State.resetWith c m ops).cursor = 0 ∧ (State.resetWith c m ops).startPtr = 0 ∧
    (State.resetWith c m ops).waitTicks = 0 ∧ (State.resetWith c m ops).scorePlaying = false ∧
    (State.resetWith c m ops).volPresent = c.params.defaultVolumePresent ∧
    (State.resetWith c m ops).nv.toNat = c.params.nvoices ∧ (State.resetWith c m ops).prevActive = 0 ∧
    (State.resetWith c m ops).lfsr = 0x01

/-- The reset input between transactions puts every register into its reset value, `lfsr` with it, fetches
nothing and leaves the score, the output block and the configuration alone (70_reset_and_hazards.md R250;
that it lands between transactions is the model's choice, log entry 12). -/
def Obligations.ResetInputRestoresTheRegisters : Prop :=
  ∀ (s : State) (rest : List HostOp), s.activity = .idle → s.script = .reset :: rest →
    step s = .next { State.resetWith s.cfg s.score rest with out := s.out, replies := s.replies }

/-- RENDER from the reset state fills the block with zeros and leaves the state a fixed point
(70_reset_and_hazards.md R251, an inference of the spec): one step begins it and two steps make each tick (the
grain of a step is the model's choice, log entry 4). -/
def Obligations.RenderAfterResetIsSilent : Prop :=
  ∀ (c : Config) (m : Memory) (rest : List HostOp),
    RunsTo (2 * c.params.block + 1) (State.resetWith c m (.render :: rest))
      { State.resetWith c m rest with out := List.replicate c.params.block (some 0) }

/-- A RENDER in whose block no STEP falls fills the block (44_render_step.md R195, R201): from any idle good state
BLOCK ticks later the block is idle again, every sample is written, and the countdown has lost BLOCK ticks if
it was active. The grain of a step is the model's choice (log entry 4). A RENDER in whose block STEP runs is
the subject of `CompletedRenderFilledTheBlock` and `OutputIsWrittenInOrder`. -/
def Obligations.RenderFillsTheBlock : Prop :=
  ∀ (s : State) (rest : List HostOp), s.Ok → s.activity = .idle → s.script = .render :: rest →
    (s.waitTicks.toNat = 0 ∨ s.cfg.params.block < s.waitTicks.toNat) →
    ∃ t, RunsTo (2 * s.cfg.params.block + 1) s t ∧ t.activity = .idle ∧ t.script = rest ∧
      t.out.length = s.cfg.params.block ∧ (∀ x ∈ t.out, x ≠ none) ∧
      t.cursor = s.cursor ∧ t.scorePlaying = s.scorePlaying ∧ t.lfsr = s.lfsr ∧
      t.waitTicks.toNat = s.waitTicks.toNat - s.cfg.params.block

/-- A wait of T ticks expires in the T-th tick (44_render_step.md R198, an inference of the spec): from the
beginning of tick i with T ticks to wait inside the block, the T-1 ticks before it run without STEP, and
stage 1 of tick i+T-1 invokes STEP at the unchanged cursor. The grain of a step is the model's choice (log entry
4). -/
def Obligations.WaitExpiresInItsTick : Prop :=
  ∀ (s : State) (i T : Nat), s.activity = .tick i → s.scorePlaying = true → s.waitTicks.toNat = T → 1 ≤ T →
    i + T ≤ s.cfg.params.block →
    (∀ k, k < T → ∃ t, RunsTo (2 * k) s t ∧ t.activity = .tick (i + k) ∧ t.waitTicks.toNat = T - k ∧
      t.cursor = s.cursor) ∧
    ∃ t, RunsTo (2 * (T - 1) + 1) s t ∧ t.activity = .interp (.tick (i + T - 1)) ∧ t.waitTicks = 0 ∧
      t.cursor = s.cursor ∧ t.scorePlaying = true

/-- A wait of zero ticks stalls the interpreter (70_reset_and_hazards.md R255): as long as the host only renders
and asks, STEP is never invoked again, whatever the number of steps, and every new reply of ISPLAYING is 1. -/
def Obligations.ZeroWaitStallsTheInterpreter : Prop :=
  ∀ (s : State) (k : Nat), s.scorePlaying = true → s.waitTicks = 0 → (∀ c, s.activity ≠ .interp c) →
    HostOnlyRenders s →
    ∃ t, RunsTo k s t ∧ t.scorePlaying = true ∧ t.waitTicks = 0 ∧ t.cursor = s.cursor ∧ t.lfsr = s.lfsr ∧
      (∀ c, t.activity ≠ .interp c) ∧ ∃ n, t.replies = s.replies ++ List.replicate n true

/-- A RESTART at `start_ptr` never lets STEP return (70_reset_and_hazards.md R256): the block hangs, no
transaction completes and no sample is written, however many steps are run. The spec's treatment of the hang is
`stuck` (93_implementation_defined.md U1: the transaction has no successor state); that it is a run of commands
without end, each step answering a next state, is the model's choice (log entry 4, DEDUCED). -/
def Obligations.RestartAtStartPtrHangs : Prop :=
  ∀ (s : State) (c : Caller) (k : Nat), s.activity = .interp c → s.cursor = s.startPtr →
    0xE0 ≤ (s.score.read s.startPtr).toNat → (s.score.read s.startPtr).toNat < 0xF0 →
    RunsTo k s s

/-! The whole machine. -/

/-- The invariants of every reachable state hold at reset, for every configuration and score
(10_state.md R42, R43), and the output block is as no RENDER has written it (20_memory.md R66). The second part is about `State.reset`, whose configuration and score are the model's
choice (log entries 1 and 2). -/
def Obligations.ResetIsGood : Prop :=
  (∀ (c : Config) (m : Memory) (ops : List HostOp), m.wf = true →
    (State.resetWith c m ops).Ok ∧ (State.resetWith c m ops).outOk = true) ∧
  State.reset.Ok ∧ State.reset.outOk = true

/-- Every step keeps the invariants (10_state.md R42, an inference of the spec; 42_envelope.md R176). -/
def Obligations.StepKeepsTheInvariants : Prop :=
  ∀ s t : State, s.Ok → step s = .next t → t.Ok

/-- No run ever stops: the block has no fault outcome and refuses nothing (60_exceptions.md R225). -/
def Obligations.NoRunStops : Prop := ∀ (k : Nat) (s : State), SafeRun k s

/-- No step writes the configuration; only the host writes a score byte; only START and the reset input write
`start_ptr`, `vol_present` and `nv` (00_scope.md R4; 20_memory.md R60; 10_state.md R34, R37, R38, R41). -/
def Obligations.OnlyStartWritesTheMode : Prop :=
  ∀ s t : State, step s = .next t →
    t.cfg = s.cfg ∧
    (t.score = s.score ∨ ∃ a b rest, s.activity = .idle ∧ s.script = .writeScore a b :: rest) ∧
    ((t.startPtr = s.startPtr ∧ t.volPresent = s.volPresent ∧ t.nv = s.nv) ∨
      (s.activity = .idle ∧ ∃ rest, (∃ base o, s.script = .start base o :: rest) ∨ s.script = .reset :: rest))

/-- Between transactions, with nothing left in the host's script, the block holds its state
(44_render_step.md R205; 60_exceptions.md R239). -/
def Obligations.IdleBlockHoldsItsState : Prop :=
  ∀ (s : State) (k : Nat), s.activity = .idle → s.script = [] → RunsTo k s s

/-! Assembler. -/

/-- DELAY (30_encoding.md R94): the waits it expands to last `ms` milliseconds together, and the sum of their
tick counts falls short of the tick count of the whole by less than one tick per part. -/
def Obligations.DelayLosesLessThanATickPerPart : Prop :=
  ∀ (c : Config) (ms : Nat), 32767 < ms →
    ((delayParts ms).map BitVec.toNat).sum = ms ∧
    ((delayParts ms).map fun w => (waitToTicks c w).toNat).sum ≤ ms * c.params.fsHz / 1000 ∧
    ms * c.params.fsHz / 1000 <
      ((delayParts ms).map fun w => (waitToTicks c w).toNat).sum + (delayParts ms).length

/-- What the assembler emits for DELAY decodes, part after part, to its waits (30_encoding.md R93, R94). The
assembler as abstract syntax is the model's choice (log entry 15). -/
def Obligations.DelayAssemblesToItsWaits : Prop :=
  ∀ (c : Config) (vol : Bool) (ms : Nat) (rest : List Byte), 32767 < ms →
    ∃ bytes, assembleStmt c vol (.delay ms) = some (bytes, vol) ∧ bytes.length = 2 * (delayParts ms).length ∧
      ∃ w tail, delayParts ms = w :: tail ∧
        decode vol (bytes ++ rest) = .ok (.wait w, (tail.flatMap fun w => encode (.wait w)) ++ rest)

/-! Sustain, and what a RENDER leaves in the output block. -/

/-- The level is held at the sustain level indefinitely (42_envelope.md R167, R170, R175; 41_voice_oscillator.md
R142): a melodic voice in Sustain, advanced any number of times, has moved its phase alone. -/
def Obligations.SustainHoldsTheLevel : Prop :=
  ∀ (c : Config) (v : Voice) (k : Nat), v.melodic = true → v.envState = .sustain →
    advances c k v = { v with phase := v.phase + BitVec.ofNat 32 k * v.inc }

/-- The output block is written in ascending order, each entry once (44_render_step.md R195, R201; 20_memory.md R66):
with tick i in progress, at its countdown, in its STEP or before its mix, the first i entries are written and no
other; every step keeps that, and the step that ends the last tick leaves every entry written. The grain of a
step and the absence of an entry not yet written are the model's choices (log entries 4 and 5). -/
def Obligations.OutputIsWrittenInOrder : Prop :=
  ∀ s t : State, s.Ok → s.outOk = true → step s = .next t →
    t.outOk = true ∧
    ∀ i, s.activity = .mix i → t.activity = .idle →
      i + 1 = s.cfg.params.block ∧ t.out.length = s.cfg.params.block ∧ ∀ x ∈ t.out, x ≠ none

/-- A RENDER that completes has filled the block, whatever STEPs ran inside it (44_render_step.md R195, R201): from a
good idle state with RENDER next, when the block is idle again for the first time every one of the BLOCK samples
is written, and the rest of the host's script is still to do. The grain of a step is the model's choice (log
entry 4). -/
def Obligations.CompletedRenderFilledTheBlock : Prop :=
  ∀ (s t : State) (rest : List HostOp) (k : Nat), s.Ok → s.activity = .idle → s.script = .render :: rest →
    0 < k → RunsTo k s t → t.activity = .idle →
    (∀ j u, 0 < j → j < k → RunsTo j s u → u.activity ≠ .idle) →
    t.script = rest ∧ t.out.length = s.cfg.params.block ∧ ∀ x ∈ t.out, x ≠ none
end

