-- ==== Sys2Proof/Laws/Config.lean ====
section
/-! SUPPORT. What a configuration's well-formedness gives: the ranges of 00_scope.md R4 and the table reads of
20_memory.md R67 to R73, each said once. -/

namespace Sys2Proof.Machine

variable (c : Config)

theorem wf_parts : c.params.rangesOk = true ∧ c.params.noteFreqOk = true ∧ c.params.attenOk = true ∧
    c.params.instrOk = true ∧ c.params.waveOk = true ∧ c.params.drumOk = true ∧ c.params.mapsOk = true := by
  have h := c.ok
  simp only [Params.wf, Bool.and_eq_true] at h
  obtain ⟨⟨⟨⟨⟨⟨h1, h2⟩, h3⟩, h4⟩, h5⟩, h6⟩, h7⟩ := h
  exact ⟨h1, h2, h3, h4, h5, h6, h7⟩

/-- The ranges of 00_scope.md R4. -/
theorem ranges : (1 ≤ c.params.nvoices ∧ c.params.nvoices ≤ 16) ∧ (1 ≤ c.params.fsHz ∧ c.params.fsHz ≤ 1048575) ∧
    1 ≤ c.params.block ∧ (c.params.noteMin ≤ c.params.noteMax ∧ c.params.noteMax ≤ 127) ∧
    (1 ≤ c.params.defaultVelocity ∧ c.params.defaultVelocity ≤ 127) ∧
    (c.params.defaultInstrument < c.params.numInstr ∧ c.params.numInstr ≤ 256) ∧
    (1 ≤ c.params.numWaves ∧ c.params.numWaves ≤ 256) ∧ c.params.numDrums ≤ 255 := by
  have h := (wf_parts c).1
  simp only [Params.rangesOk, Bool.and_eq_true, decide_eq_true_eq] at h
  omega

/-- `NOTE_FREQ` has an entry for every note of the range, each below the sample rate (20_memory.md R67). -/
theorem noteFreq_lt (n : Nat) : (noteFreq c n).toNat < c.params.fsHz * 65536 := by
  have h := (wf_parts c).2.1
  have hr := (ranges c).2.1.1
  simp only [Params.noteFreqOk, Bool.and_eq_true, decide_eq_true_eq, List.all_eq_true] at h
  unfold noteFreq
  rw [List.getD_eq_getElem?_getD]
  rcases Nat.lt_or_ge (n - c.params.noteMin) c.params.noteFreq.length with hl | hl
  · rw [List.getElem?_eq_getElem hl, Option.getD_some]
    exact h.2 _ (List.getElem_mem hl)
  · rw [List.getElem?_eq_none hl, Option.getD_none]
    simp
    omega

theorem clampNote_range (n : Byte) :
    c.params.noteMin ≤ clampNote c n ∧ clampNote c n ≤ c.params.noteMax := by
  have h := (ranges c).2.2.2.1
  unfold clampNote clampNat
  split <;> [omega; split <;> omega]

/-- The table read of a clamped note is inside the table (20_memory.md R67). -/
theorem noteFreq_of_clamped (n : Byte) :
    c.params.noteFreq[clampNote c n - c.params.noteMin]? = some (noteFreq c (clampNote c n)) := by
  have h := (wf_parts c).2.1
  have hr := clampNote_range c n
  simp only [Params.noteFreqOk, Bool.and_eq_true, decide_eq_true_eq] at h
  have hl : clampNote c n - c.params.noteMin < c.params.noteFreq.length := by omega
  rw [noteFreq, List.getD_eq_getElem?_getD, List.getElem?_eq_getElem hl, Option.getD_some]

theorem instrument_of_getElem {k : Nat} {i : Instrument} (h : c.params.instr[k]? = some i) :
    instrument c k = i := by simp [instrument, h]

/-- The tables `INSTR`, `WAVE` and `DRUM` have as many rows as the parameters say (20_memory.md R69 to R71). -/
theorem table_lengths : c.params.instr.length = c.params.numInstr ∧ c.params.wave.length = c.params.numWaves ∧
    c.params.drum.length = c.params.numDrums := by
  obtain ⟨-, -, -, hi, hw, hd, -⟩ := wf_parts c
  simp only [Params.instrOk, Params.waveOk, Params.drumOk, Bool.and_eq_true, decide_eq_true_eq] at hi hw hd
  exact ⟨hi.1, hw.1, hd.1⟩

theorem instrument_mem {k : Nat} (h : k < c.params.numInstr) : instrument c k ∈ c.params.instr := by
  have hl : k < c.params.instr.length := (table_lengths c).1 ▸ h
  simp [instrument, List.getElem?_eq_getElem hl]

/-- A row of `INSTR` refers to a waveform that exists and has a sustain level in range (20_memory.md R69). -/
theorem instrument_ok {k : Nat} (h : k < c.params.numInstr) :
    (instrument c k).wave.toNat < c.params.numWaves ∧ (instrument c k).sustain.toNat ≤ envFull := by
  have hw := (wf_parts c).2.2.2.1
  simp only [Params.instrOk, List.all_eq_true, Bool.and_eq_true, decide_eq_true_eq] at hw
  exact hw.2 _ (instrument_mem c h)

theorem drum_of_getElem {k : Nat} {d : Drum} (h : c.params.drum[k]? = some d) : drum c k = d := by
  simp [drum, h]

/-- A row of `DRUM` has at least two samples, as many as its end index says, and a native frequency whose
increment fits (20_memory.md R71). -/
theorem drum_ok {k : Nat} (h : k < c.params.numDrums) :
    (drum c k).data.length = (drum c k).endIdx.toNat + 1 ∧ 1 ≤ (drum c k).endIdx.toNat ∧
      (drum c k).freq.toNat < c.params.fsHz * 65536 := by
  have hw := (wf_parts c).2.2.2.2.2.1
  simp only [Params.drumOk, List.all_eq_true, Bool.and_eq_true, decide_eq_true_eq] at hw
  have hl : k < c.params.drum.length := (table_lengths c).2.2 ▸ h
  have hm : drum c k ∈ c.params.drum := by simp [drum, List.getElem?_eq_getElem hl]
  obtain ⟨⟨h1, h2⟩, h3⟩ := hw.2 _ hm
  exact ⟨h1, h2, h3⟩

/-- A drum that a note number selects exists (20_memory.md R73). -/
theorem drumOf_lt {n d : Byte} (h : drumOf c n = some d) : d.toNat < c.params.numDrums := by
  have hw := (wf_parts c).2.2.2.2.2.2
  simp only [Params.mapsOk, List.all_eq_true, Bool.and_eq_true, Bool.or_eq_true, decide_eq_true_eq] at hw
  unfold drumOf at h
  split at h
  · cases hm : c.params.drumMap[n.toNat - 128]? with
    | none => simp [hm] at h
    | some e =>
      simp only [hm, Option.bind_some] at h
      split at h
      · cases h
      · cases h
        rcases hw.2 _ (List.mem_of_getElem? hm) with h' | h'
        · exact h'
        · contradiction
  · cases h

/-- An instrument that an instrument id selects exists (20_memory.md R72). -/
theorem patchOf_lt {id k : Byte} (h : patchOf c id = some k) : k.toNat < c.params.numInstr := by
  have hw := (wf_parts c).2.2.2.2.2.2
  simp only [Params.mapsOk, List.all_eq_true, Bool.and_eq_true, decide_eq_true_eq] at hw
  unfold patchOf at h
  split at h
  · exact hw.1.1.2 _ (List.mem_of_getElem? h)
  · cases h

/-- Every instrument id of 0 to 127 selects an instrument (20_memory.md R72). -/
theorem patchOf_isSome {id : Byte} (h : id.toNat < 128) : (patchOf c id).isSome := by
  have hw := (wf_parts c).2.2.2.2.2.2
  simp only [Params.mapsOk, Bool.and_eq_true, decide_eq_true_eq] at hw
  simp [patchOf, h, hw.1.1.1]

/-- `ATTEN[k]` for k <= NVOICES is at most unity (20_memory.md R68). -/
theorem gain_le {k : Nat} (h : k ≤ c.params.nvoices) : gain c k ≤ 256 := by
  have hw := (wf_parts c).2.2.1
  simp only [Params.attenOk, List.all_eq_true, Bool.and_eq_true, decide_eq_true_eq] at hw
  have hl : k < c.params.atten.length := by omega
  rw [gain, List.getElem?_eq_getElem hl, Option.getD_some]
  exact hw.1.2 _ (List.getElem_mem hl)

end Sys2Proof.Machine
end

