-- ==== Sys2Proof/Laws/Arith.lean ====
section
/-! SUPPORT. The arithmetic primitives and the narrowing to a register, each said as a plain equation on numbers
(00_scope.md R8, R9), and the table increments and the wait conversion as exact quotients. -/

namespace Sys2Proof.Machine

theorem clampNat_eq_max (x : Nat) {lo hi : Nat} (h : lo ≤ hi) : clampNat x lo hi = max lo (min x hi) := by
  unfold clampNat
  split <;> [omega; (split <;> omega)]

/-- A level in range is stored as it is. -/
theorem toU32_toNat {x : Int} (h0 : 0 ≤ x) (h : x < 2 ^ 32) : ((toU32 x).toNat : Int) = x := by
  simp [toU32, BitVec.toNat_ofInt]
  omega

/-- An increment in range is stored as it is. -/
theorem toS32_toInt {x : Int} (h0 : -2 ^ 31 ≤ x) (h : x < 2 ^ 31) : (toS32 x).toInt = x := by
  simp [toS32, BitVec.toInt_ofInt, Int.bmod]
  split <;> omega

/-- A rising ramp's increment (42_envelope.md R164). -/
theorem toS32_natCast {n : Nat} (h : n ≤ 2 ^ 30) : (toS32 (n : Int)).toInt = n :=
  toS32_toInt (by omega) (by omega)

/-- A falling ramp's increment (42_envelope.md R166, R171). -/
theorem toS32_neg_natCast {n : Nat} (h : n ≤ 2 ^ 30) : (toS32 (-(n : Int))).toInt = -(n : Int) :=
  toS32_toInt (by omega) (by omega)

theorem toU32_envFull : (toU32 (envFull : Int)).toNat = 2 ^ 30 := by decide

/-- A saturated sample is stored as it is (43_mixer.md R188). -/
theorem toSample_sat16 (x : Int) : (toSample (sat16 x)).toInt = max (-32768) (min 32767 x) := by
  simp only [toSample, sat16, clamp, BitVec.toInt_ofInt, Int.bmod]
  repeat' split
  all_goals omega

/-- A product with a multiplier of 0 to 2^n, shifted right by n, lies between the value and 0. -/
theorem mul_shift_between (x m : Int) (n : Nat) (h0 : 0 ≤ m) (h : m ≤ 2 ^ n) :
    min x 0 ≤ asr (x * m) n ∧ asr (x * m) n ≤ max x 0 := by
  have hp : (0 : Int) < 2 ^ n := by positivity
  unfold asr
  rcases le_or_gt 0 x with hx | hx
  · have h1 := Int.ediv_le_ediv hp (mul_le_mul_of_nonneg_left h hx)
    have h2 := Int.ediv_nonneg (mul_nonneg hx h0) (le_of_lt hp)
    rw [Int.mul_ediv_cancel _ (by omega)] at h1
    omega
  · have h1 := Int.ediv_le_ediv hp (mul_le_mul_of_nonpos_left h (le_of_lt hx))
    have h2 := Int.ediv_le_ediv hp (mul_nonpos_of_nonpos_of_nonneg (le_of_lt hx) h0)
    rw [Int.mul_ediv_cancel _ (by omega)] at h1
    rw [Int.zero_ediv] at h2
    omega

variable (c : Config)

/-- An increment fits its register, for every frequency below the sample rate (41_voice_oscillator.md R137,
R138). -/
theorem increment_toNat {f : Word} (h : f.toNat < c.params.fsHz * 65536) :
    (trunc32 (floorDiv (f.toNat * 65536) c.params.fsHz)).toNat = f.toNat * 65536 / c.params.fsHz := by
  simp only [trunc32, floorDiv, BitVec.toNat_ofNat]
  apply Nat.mod_eq_of_lt
  apply Nat.div_lt_of_lt_mul
  omega

theorem velocityScale_toNat (vel : Byte) : (velocityScale vel).toNat = max 1 (min vel.toNat 127) := by
  simp only [velocityScale, BitVec.toNat_ofNat]
  rw [clampNat_eq_max _ (by omega)]
  omega

theorem isPercussion_iff (n : Byte) : isPercussion n = true ↔ 128 ≤ n.toNat := by simp [isPercussion]

end Sys2Proof.Machine
end

