-- ==== Sys2Proof/Laws/Bytes.lean ====
section
/-! SUPPORT. The fields of a first byte and of a wait count, put together and taken apart (30_encoding.md R81,
R83), and what a list of bytes has to do with the bytes a fetch reads. -/

namespace Sys2Proof

@[simp] theorem opOf_append (op t : BitVec 4) : opOf (op ++ t) = op := by
  revert op t; decide +kernel

@[simp] theorem lowNibble_append (op t : BitVec 4) : lowNibble (op ++ t) = t := by
  revert op t; decide +kernel

@[simp] theorem classBit_append (op t : BitVec 4) : classBit (op ++ t) = op.getLsbD 3 := by
  revert op t; decide +kernel

@[simp] theorem classBit_wait (h : BitVec 7) : classBit (0#1 ++ h) = false := by
  revert h; decide +kernel

/-- A first byte is its opcode nibble and its low nibble. -/
theorem opOf_append_lowNibble (b : Byte) : opOf b ++ lowNibble b = b := by
  revert b; decide +kernel

/-- The first byte of every command but WAIT has one of the eight opcodes 0x8 to 0xF. -/
theorem opOf_of_classBit (b : Byte) (h : classBit b = true) :
    opOf b ∈ [0x8#4, 0x9#4, 0xA#4, 0xB#4, 0xC#4, 0xD#4, 0xE#4, 0xF#4] := by
  revert b; decide +kernel

/-- The fields of a first byte as numbers (30_encoding.md R81). -/
theorem firstByte_toNat (b : Byte) :
    (classBit b = false ↔ b.toNat < 0x80) ∧ (opOf b).toNat = b.toNat / 16 ∧
      lowNibble b = BitVec.ofNat 4 b.toNat := by
  revert b; decide +kernel

theorem append_toNat (x : BitVec 7) (y : BitVec 8) : (x ++ y).toNat = x.toNat * 256 + y.toNat := by
  rw [BitVec.toNat_append, ← Nat.shiftLeft_add_eq_or_of_lt y.isLt, Nat.shiftLeft_eq]

/-- The two bytes of a WAIT give its count back (30_encoding.md R83). -/
theorem waitCount_encode (ms : BitVec 15) :
    waitCount (0#1 ++ ms.extractLsb' 8 7) (ms.extractLsb' 0 8) = ms := by
  have hx : ∀ x : BitVec 7, (0#1 ++ x : BitVec 8).extractLsb' 0 7 = x := by decide +kernel
  unfold waitCount
  rw [hx]
  apply BitVec.eq_of_toNat_eq
  have := ms.isLt
  rw [append_toNat]
  simp [Nat.shiftRight_eq_div_pow]
  omega

/-- A WAIT's count gives its two bytes back (30_encoding.md R83). -/
theorem encode_waitCount (b0 b1 : Byte) (h : classBit b0 = false) :
    (0#1 ++ (waitCount b0 b1).extractLsb' 8 7 : BitVec 8) = b0 ∧ (waitCount b0 b1).extractLsb' 0 8 = b1 := by
  have hh : (waitCount b0 b1).extractLsb' 8 7 = b0.extractLsb' 0 7 := by
    apply BitVec.eq_of_toNat_eq
    have := b1.isLt
    simp [waitCount, append_toNat, Nat.shiftRight_eq_div_pow]
    omega
  have hl : (waitCount b0 b1).extractLsb' 0 8 = b1 := by
    apply BitVec.eq_of_toNat_eq
    have := b1.isLt
    simp [waitCount, append_toNat]
    omega
  rw [hh, hl]
  exact ⟨by clear hh hl; revert b0; decide +kernel, rfl⟩

/-- No command is longer than three bytes (30_encoding.md R82). -/
theorem cmdLength_le (vol : Bool) (b : Byte) : cmdLength vol b ≤ 3 := by
  unfold cmdLength
  repeat' split
  all_goals simp

/-- Decoding looks at the first three bytes only, and at `vol_present` only for a NOTEON
(30_encoding.md R82). -/
theorem decodeFrom_congr {m m' : Bool} {r r' : Nat → Byte} (h : ∀ k, k < 3 → r k = r' k)
    (hm : opOf (r' 0) = 0x9#4 → m = m') : decodeFrom m r = decodeFrom m' r' := by
  simp only [decodeFrom, h 0 (by omega), h 1 (by omega), h 2 (by omega)]
  by_cases h9 : opOf (r' 0) = 0x9#4
  · simp [hm h9]
  · simp [h9]

end Sys2Proof
end

