-- ==== Sys2Proof/Laws/State.lean ====
section
/-! SUPPORT. One lemma per field per named update of State, so that no later proof unfolds a record update. -/

namespace Sys2Proof.Machine

variable (s : State)

/-! `State.advance` -/

@[simp] theorem State.advance_voices (k : Nat) : (s.advance k).voices = s.voices := rfl
@[simp] theorem State.advance_cursor (k : Nat) : (s.advance k).cursor = s.cursor + BitVec.ofNat 32 k := rfl
@[simp] theorem State.advance_startPtr (k : Nat) : (s.advance k).startPtr = s.startPtr := rfl
@[simp] theorem State.advance_waitTicks (k : Nat) : (s.advance k).waitTicks = s.waitTicks := rfl
@[simp] theorem State.advance_scorePlaying (k : Nat) : (s.advance k).scorePlaying = s.scorePlaying := rfl
@[simp] theorem State.advance_volPresent (k : Nat) : (s.advance k).volPresent = s.volPresent := rfl
@[simp] theorem State.advance_nv (k : Nat) : (s.advance k).nv = s.nv := rfl
@[simp] theorem State.advance_prevActive (k : Nat) : (s.advance k).prevActive = s.prevActive := rfl
@[simp] theorem State.advance_lfsr (k : Nat) : (s.advance k).lfsr = s.lfsr := rfl
@[simp] theorem State.advance_cfg (k : Nat) : (s.advance k).cfg = s.cfg := rfl
@[simp] theorem State.advance_score (k : Nat) : (s.advance k).score = s.score := rfl
@[simp] theorem State.advance_out (k : Nat) : (s.advance k).out = s.out := rfl
@[simp] theorem State.advance_activity (k : Nat) : (s.advance k).activity = s.activity := rfl
@[simp] theorem State.advance_script (k : Nat) : (s.advance k).script = s.script := rfl
@[simp] theorem State.advance_replies (k : Nat) : (s.advance k).replies = s.replies := rfl

/-! `State.jump` -/

@[simp] theorem State.jump_voices (a : Word) : (s.jump a).voices = s.voices := rfl
@[simp] theorem State.jump_cursor (a : Word) : (s.jump a).cursor = a := rfl
@[simp] theorem State.jump_startPtr (a : Word) : (s.jump a).startPtr = s.startPtr := rfl
@[simp] theorem State.jump_waitTicks (a : Word) : (s.jump a).waitTicks = s.waitTicks := rfl
@[simp] theorem State.jump_scorePlaying (a : Word) : (s.jump a).scorePlaying = s.scorePlaying := rfl
@[simp] theorem State.jump_volPresent (a : Word) : (s.jump a).volPresent = s.volPresent := rfl
@[simp] theorem State.jump_nv (a : Word) : (s.jump a).nv = s.nv := rfl
@[simp] theorem State.jump_prevActive (a : Word) : (s.jump a).prevActive = s.prevActive := rfl
@[simp] theorem State.jump_lfsr (a : Word) : (s.jump a).lfsr = s.lfsr := rfl
@[simp] theorem State.jump_cfg (a : Word) : (s.jump a).cfg = s.cfg := rfl
@[simp] theorem State.jump_score (a : Word) : (s.jump a).score = s.score := rfl
@[simp] theorem State.jump_out (a : Word) : (s.jump a).out = s.out := rfl
@[simp] theorem State.jump_activity (a : Word) : (s.jump a).activity = s.activity := rfl
@[simp] theorem State.jump_script (a : Word) : (s.jump a).script = s.script := rfl
@[simp] theorem State.jump_replies (a : Word) : (s.jump a).replies = s.replies := rfl

/-! `State.enterStep` -/

@[simp] theorem State.enterStep_voices (c : Caller) : (s.enterStep c).voices = s.voices := rfl
@[simp] theorem State.enterStep_cursor (c : Caller) : (s.enterStep c).cursor = s.cursor := rfl
@[simp] theorem State.enterStep_startPtr (c : Caller) : (s.enterStep c).startPtr = s.startPtr := rfl
@[simp] theorem State.enterStep_waitTicks (c : Caller) : (s.enterStep c).waitTicks = s.waitTicks := rfl
@[simp] theorem State.enterStep_scorePlaying (c : Caller) : (s.enterStep c).scorePlaying = s.scorePlaying := rfl
@[simp] theorem State.enterStep_volPresent (c : Caller) : (s.enterStep c).volPresent = s.volPresent := rfl
@[simp] theorem State.enterStep_nv (c : Caller) : (s.enterStep c).nv = s.nv := rfl
@[simp] theorem State.enterStep_prevActive (c : Caller) : (s.enterStep c).prevActive = s.prevActive := rfl
@[simp] theorem State.enterStep_lfsr (c : Caller) : (s.enterStep c).lfsr = s.lfsr := rfl
@[simp] theorem State.enterStep_cfg (c : Caller) : (s.enterStep c).cfg = s.cfg := rfl
@[simp] theorem State.enterStep_score (c : Caller) : (s.enterStep c).score = s.score := rfl
@[simp] theorem State.enterStep_out (c : Caller) : (s.enterStep c).out = s.out := rfl
@[simp] theorem State.enterStep_activity (c : Caller) : (s.enterStep c).activity = .interp c := rfl
@[simp] theorem State.enterStep_script (c : Caller) : (s.enterStep c).script = s.script := rfl
@[simp] theorem State.enterStep_replies (c : Caller) : (s.enterStep c).replies = s.replies := rfl

/-! `State.returnFromStep` -/

@[simp] theorem State.returnFromStep_voices : (s.returnFromStep).voices = s.voices := rfl
@[simp] theorem State.returnFromStep_cursor : (s.returnFromStep).cursor = s.cursor := rfl
@[simp] theorem State.returnFromStep_startPtr : (s.returnFromStep).startPtr = s.startPtr := rfl
@[simp] theorem State.returnFromStep_waitTicks : (s.returnFromStep).waitTicks = s.waitTicks := rfl
@[simp] theorem State.returnFromStep_scorePlaying : (s.returnFromStep).scorePlaying = s.scorePlaying := rfl
@[simp] theorem State.returnFromStep_volPresent : (s.returnFromStep).volPresent = s.volPresent := rfl
@[simp] theorem State.returnFromStep_nv : (s.returnFromStep).nv = s.nv := rfl
@[simp] theorem State.returnFromStep_prevActive : (s.returnFromStep).prevActive = s.prevActive := rfl
@[simp] theorem State.returnFromStep_lfsr : (s.returnFromStep).lfsr = s.lfsr := rfl
@[simp] theorem State.returnFromStep_cfg : (s.returnFromStep).cfg = s.cfg := rfl
@[simp] theorem State.returnFromStep_score : (s.returnFromStep).score = s.score := rfl
@[simp] theorem State.returnFromStep_out : (s.returnFromStep).out = s.out := rfl
@[simp] theorem State.returnFromStep_script : (s.returnFromStep).script = s.script := rfl
@[simp] theorem State.returnFromStep_replies : (s.returnFromStep).replies = s.replies := rfl

/-! `State.setWait` -/

@[simp] theorem State.setWait_voices (w : Word) : (s.setWait w).voices = s.voices := rfl
@[simp] theorem State.setWait_cursor (w : Word) : (s.setWait w).cursor = s.cursor := rfl
@[simp] theorem State.setWait_startPtr (w : Word) : (s.setWait w).startPtr = s.startPtr := rfl
@[simp] theorem State.setWait_waitTicks (w : Word) : (s.setWait w).waitTicks = w := rfl
@[simp] theorem State.setWait_scorePlaying (w : Word) : (s.setWait w).scorePlaying = s.scorePlaying := rfl
@[simp] theorem State.setWait_volPresent (w : Word) : (s.setWait w).volPresent = s.volPresent := rfl
@[simp] theorem State.setWait_nv (w : Word) : (s.setWait w).nv = s.nv := rfl
@[simp] theorem State.setWait_prevActive (w : Word) : (s.setWait w).prevActive = s.prevActive := rfl
@[simp] theorem State.setWait_lfsr (w : Word) : (s.setWait w).lfsr = s.lfsr := rfl
@[simp] theorem State.setWait_cfg (w : Word) : (s.setWait w).cfg = s.cfg := rfl
@[simp] theorem State.setWait_score (w : Word) : (s.setWait w).score = s.score := rfl
@[simp] theorem State.setWait_out (w : Word) : (s.setWait w).out = s.out := rfl
@[simp] theorem State.setWait_activity (w : Word) : (s.setWait w).activity = s.activity := rfl
@[simp] theorem State.setWait_script (w : Word) : (s.setWait w).script = s.script := rfl
@[simp] theorem State.setWait_replies (w : Word) : (s.setWait w).replies = s.replies := rfl

/-! `State.setPlaying` -/

@[simp] theorem State.setPlaying_voices (b : Bool) : (s.setPlaying b).voices = s.voices := rfl
@[simp] theorem State.setPlaying_cursor (b : Bool) : (s.setPlaying b).cursor = s.cursor := rfl
@[simp] theorem State.setPlaying_startPtr (b : Bool) : (s.setPlaying b).startPtr = s.startPtr := rfl
@[simp] theorem State.setPlaying_waitTicks (b : Bool) : (s.setPlaying b).waitTicks = s.waitTicks := rfl
@[simp] theorem State.setPlaying_scorePlaying (b : Bool) : (s.setPlaying b).scorePlaying = b := rfl
@[simp] theorem State.setPlaying_volPresent (b : Bool) : (s.setPlaying b).volPresent = s.volPresent := rfl
@[simp] theorem State.setPlaying_nv (b : Bool) : (s.setPlaying b).nv = s.nv := rfl
@[simp] theorem State.setPlaying_prevActive (b : Bool) : (s.setPlaying b).prevActive = s.prevActive := rfl
@[simp] theorem State.setPlaying_lfsr (b : Bool) : (s.setPlaying b).lfsr = s.lfsr := rfl
@[simp] theorem State.setPlaying_cfg (b : Bool) : (s.setPlaying b).cfg = s.cfg := rfl
@[simp] theorem State.setPlaying_score (b : Bool) : (s.setPlaying b).score = s.score := rfl
@[simp] theorem State.setPlaying_out (b : Bool) : (s.setPlaying b).out = s.out := rfl
@[simp] theorem State.setPlaying_activity (b : Bool) : (s.setPlaying b).activity = s.activity := rfl
@[simp] theorem State.setPlaying_script (b : Bool) : (s.setPlaying b).script = s.script := rfl
@[simp] theorem State.setPlaying_replies (b : Bool) : (s.setPlaying b).replies = s.replies := rfl

/-! `State.setLfsr` -/

@[simp] theorem State.setLfsr_voices (l : BitVec 8) : (s.setLfsr l).voices = s.voices := rfl
@[simp] theorem State.setLfsr_cursor (l : BitVec 8) : (s.setLfsr l).cursor = s.cursor := rfl
@[simp] theorem State.setLfsr_startPtr (l : BitVec 8) : (s.setLfsr l).startPtr = s.startPtr := rfl
@[simp] theorem State.setLfsr_waitTicks (l : BitVec 8) : (s.setLfsr l).waitTicks = s.waitTicks := rfl
@[simp] theorem State.setLfsr_scorePlaying (l : BitVec 8) : (s.setLfsr l).scorePlaying = s.scorePlaying := rfl
@[simp] theorem State.setLfsr_volPresent (l : BitVec 8) : (s.setLfsr l).volPresent = s.volPresent := rfl
@[simp] theorem State.setLfsr_nv (l : BitVec 8) : (s.setLfsr l).nv = s.nv := rfl
@[simp] theorem State.setLfsr_prevActive (l : BitVec 8) : (s.setLfsr l).prevActive = s.prevActive := rfl
@[simp] theorem State.setLfsr_lfsr (l : BitVec 8) : (s.setLfsr l).lfsr = l := rfl
@[simp] theorem State.setLfsr_cfg (l : BitVec 8) : (s.setLfsr l).cfg = s.cfg := rfl
@[simp] theorem State.setLfsr_score (l : BitVec 8) : (s.setLfsr l).score = s.score := rfl
@[simp] theorem State.setLfsr_out (l : BitVec 8) : (s.setLfsr l).out = s.out := rfl
@[simp] theorem State.setLfsr_activity (l : BitVec 8) : (s.setLfsr l).activity = s.activity := rfl
@[simp] theorem State.setLfsr_script (l : BitVec 8) : (s.setLfsr l).script = s.script := rfl
@[simp] theorem State.setLfsr_replies (l : BitVec 8) : (s.setLfsr l).replies = s.replies := rfl

/-! `State.setVoices` -/

@[simp] theorem State.setVoices_voices (vs : List Voice) : (s.setVoices vs).voices = vs := rfl
@[simp] theorem State.setVoices_cursor (vs : List Voice) : (s.setVoices vs).cursor = s.cursor := rfl
@[simp] theorem State.setVoices_startPtr (vs : List Voice) : (s.setVoices vs).startPtr = s.startPtr := rfl
@[simp] theorem State.setVoices_waitTicks (vs : List Voice) : (s.setVoices vs).waitTicks = s.waitTicks := rfl
@[simp] theorem State.setVoices_scorePlaying (vs : List Voice) : (s.setVoices vs).scorePlaying = s.scorePlaying := rfl
@[simp] theorem State.setVoices_volPresent (vs : List Voice) : (s.setVoices vs).volPresent = s.volPresent := rfl
@[simp] theorem State.setVoices_nv (vs : List Voice) : (s.setVoices vs).nv = s.nv := rfl
@[simp] theorem State.setVoices_prevActive (vs : List Voice) : (s.setVoices vs).prevActive = s.prevActive := rfl
@[simp] theorem State.setVoices_lfsr (vs : List Voice) : (s.setVoices vs).lfsr = s.lfsr := rfl
@[simp] theorem State.setVoices_cfg (vs : List Voice) : (s.setVoices vs).cfg = s.cfg := rfl
@[simp] theorem State.setVoices_score (vs : List Voice) : (s.setVoices vs).score = s.score := rfl
@[simp] theorem State.setVoices_out (vs : List Voice) : (s.setVoices vs).out = s.out := rfl
@[simp] theorem State.setVoices_activity (vs : List Voice) : (s.setVoices vs).activity = s.activity := rfl
@[simp] theorem State.setVoices_script (vs : List Voice) : (s.setVoices vs).script = s.script := rfl
@[simp] theorem State.setVoices_replies (vs : List Voice) : (s.setVoices vs).replies = s.replies := rfl

/-! `State.setVoice` -/

@[simp] theorem State.setVoice_voices (t : Nat) (v : Voice) : (s.setVoice t v).voices = s.voices.set t v := rfl
@[simp] theorem State.setVoice_cursor (t : Nat) (v : Voice) : (s.setVoice t v).cursor = s.cursor := rfl
@[simp] theorem State.setVoice_startPtr (t : Nat) (v : Voice) : (s.setVoice t v).startPtr = s.startPtr := rfl
@[simp] theorem State.setVoice_waitTicks (t : Nat) (v : Voice) : (s.setVoice t v).waitTicks = s.waitTicks := rfl
@[simp] theorem State.setVoice_scorePlaying (t : Nat) (v : Voice) : (s.setVoice t v).scorePlaying = s.scorePlaying := rfl
@[simp] theorem State.setVoice_volPresent (t : Nat) (v : Voice) : (s.setVoice t v).volPresent = s.volPresent := rfl
@[simp] theorem State.setVoice_nv (t : Nat) (v : Voice) : (s.setVoice t v).nv = s.nv := rfl
@[simp] theorem State.setVoice_prevActive (t : Nat) (v : Voice) : (s.setVoice t v).prevActive = s.prevActive := rfl
@[simp] theorem State.setVoice_lfsr (t : Nat) (v : Voice) : (s.setVoice t v).lfsr = s.lfsr := rfl
@[simp] theorem State.setVoice_cfg (t : Nat) (v : Voice) : (s.setVoice t v).cfg = s.cfg := rfl
@[simp] theorem State.setVoice_score (t : Nat) (v : Voice) : (s.setVoice t v).score = s.score := rfl
@[simp] theorem State.setVoice_out (t : Nat) (v : Voice) : (s.setVoice t v).out = s.out := rfl
@[simp] theorem State.setVoice_activity (t : Nat) (v : Voice) : (s.setVoice t v).activity = s.activity := rfl
@[simp] theorem State.setVoice_script (t : Nat) (v : Voice) : (s.setVoice t v).script = s.script := rfl
@[simp] theorem State.setVoice_replies (t : Nat) (v : Voice) : (s.setVoice t v).replies = s.replies := rfl

/-! `State.haltScore` -/

@[simp] theorem State.haltScore_voices : (s.haltScore).voices = s.voices.map (noteOffVoice s.cfg) := rfl
@[simp] theorem State.haltScore_cursor : (s.haltScore).cursor = s.cursor := rfl
@[simp] theorem State.haltScore_startPtr : (s.haltScore).startPtr = s.startPtr := rfl
@[simp] theorem State.haltScore_waitTicks : (s.haltScore).waitTicks = 0 := rfl
@[simp] theorem State.haltScore_scorePlaying : (s.haltScore).scorePlaying = false := rfl
@[simp] theorem State.haltScore_volPresent : (s.haltScore).volPresent = s.volPresent := rfl
@[simp] theorem State.haltScore_nv : (s.haltScore).nv = s.nv := rfl
@[simp] theorem State.haltScore_prevActive : (s.haltScore).prevActive = s.prevActive := rfl
@[simp] theorem State.haltScore_lfsr : (s.haltScore).lfsr = s.lfsr := rfl
@[simp] theorem State.haltScore_cfg : (s.haltScore).cfg = s.cfg := rfl
@[simp] theorem State.haltScore_score : (s.haltScore).score = s.score := rfl
@[simp] theorem State.haltScore_out : (s.haltScore).out = s.out := rfl
@[simp] theorem State.haltScore_activity : (s.haltScore).activity = s.activity := rfl
@[simp] theorem State.haltScore_script : (s.haltScore).script = s.script := rfl
@[simp] theorem State.haltScore_replies : (s.haltScore).replies = s.replies := rfl

/-! `State.writeOut` -/

@[simp] theorem State.writeOut_voices (i : Nat) (x : Sample) : (s.writeOut i x).voices = s.voices := rfl
@[simp] theorem State.writeOut_cursor (i : Nat) (x : Sample) : (s.writeOut i x).cursor = s.cursor := rfl
@[simp] theorem State.writeOut_startPtr (i : Nat) (x : Sample) : (s.writeOut i x).startPtr = s.startPtr := rfl
@[simp] theorem State.writeOut_waitTicks (i : Nat) (x : Sample) : (s.writeOut i x).waitTicks = s.waitTicks := rfl
@[simp] theorem State.writeOut_scorePlaying (i : Nat) (x : Sample) : (s.writeOut i x).scorePlaying = s.scorePlaying := rfl
@[simp] theorem State.writeOut_volPresent (i : Nat) (x : Sample) : (s.writeOut i x).volPresent = s.volPresent := rfl
@[simp] theorem State.writeOut_nv (i : Nat) (x : Sample) : (s.writeOut i x).nv = s.nv := rfl
@[simp] theorem State.writeOut_prevActive (i : Nat) (x : Sample) : (s.writeOut i x).prevActive = s.prevActive := rfl
@[simp] theorem State.writeOut_lfsr (i : Nat) (x : Sample) : (s.writeOut i x).lfsr = s.lfsr := rfl
@[simp] theorem State.writeOut_cfg (i : Nat) (x : Sample) : (s.writeOut i x).cfg = s.cfg := rfl
@[simp] theorem State.writeOut_score (i : Nat) (x : Sample) : (s.writeOut i x).score = s.score := rfl
@[simp] theorem State.writeOut_out (i : Nat) (x : Sample) : (s.writeOut i x).out = s.out.set i (some x) := rfl
@[simp] theorem State.writeOut_activity (i : Nat) (x : Sample) : (s.writeOut i x).activity = s.activity := rfl
@[simp] theorem State.writeOut_script (i : Nat) (x : Sample) : (s.writeOut i x).script = s.script := rfl
@[simp] theorem State.writeOut_replies (i : Nat) (x : Sample) : (s.writeOut i x).replies = s.replies := rfl

/-! `State.mixStage` -/

@[simp] theorem State.mixStage_voices (i : Nat) : (s.mixStage i).voices = s.voices := rfl
@[simp] theorem State.mixStage_cursor (i : Nat) : (s.mixStage i).cursor = s.cursor := rfl
@[simp] theorem State.mixStage_startPtr (i : Nat) : (s.mixStage i).startPtr = s.startPtr := rfl
@[simp] theorem State.mixStage_waitTicks (i : Nat) : (s.mixStage i).waitTicks = s.waitTicks := rfl
@[simp] theorem State.mixStage_scorePlaying (i : Nat) : (s.mixStage i).scorePlaying = s.scorePlaying := rfl
@[simp] theorem State.mixStage_volPresent (i : Nat) : (s.mixStage i).volPresent = s.volPresent := rfl
@[simp] theorem State.mixStage_nv (i : Nat) : (s.mixStage i).nv = s.nv := rfl
@[simp] theorem State.mixStage_prevActive (i : Nat) : (s.mixStage i).prevActive = s.activeCount := rfl
@[simp] theorem State.mixStage_lfsr (i : Nat) : (s.mixStage i).lfsr = s.lfsr := rfl
@[simp] theorem State.mixStage_cfg (i : Nat) : (s.mixStage i).cfg = s.cfg := rfl
@[simp] theorem State.mixStage_score (i : Nat) : (s.mixStage i).score = s.score := rfl
@[simp] theorem State.mixStage_out (i : Nat) : (s.mixStage i).out = s.out.set i (some s.mixSample) := rfl
@[simp] theorem State.mixStage_activity (i : Nat) : (s.mixStage i).activity = s.activity := rfl
@[simp] theorem State.mixStage_script (i : Nat) : (s.mixStage i).script = s.script := rfl
@[simp] theorem State.mixStage_replies (i : Nat) : (s.mixStage i).replies = s.replies := rfl

/-! `State.advanceStage` -/

@[simp] theorem State.advanceStage_voices : (s.advanceStage).voices = s.voices.map (advanceVoice s.cfg) := rfl
@[simp] theorem State.advanceStage_cursor : (s.advanceStage).cursor = s.cursor := rfl
@[simp] theorem State.advanceStage_startPtr : (s.advanceStage).startPtr = s.startPtr := rfl
@[simp] theorem State.advanceStage_waitTicks : (s.advanceStage).waitTicks = s.waitTicks := rfl
@[simp] theorem State.advanceStage_scorePlaying : (s.advanceStage).scorePlaying = s.scorePlaying := rfl
@[simp] theorem State.advanceStage_volPresent : (s.advanceStage).volPresent = s.volPresent := rfl
@[simp] theorem State.advanceStage_nv : (s.advanceStage).nv = s.nv := rfl
@[simp] theorem State.advanceStage_prevActive : (s.advanceStage).prevActive = s.prevActive := rfl
@[simp] theorem State.advanceStage_lfsr : (s.advanceStage).lfsr = s.lfsr := rfl
@[simp] theorem State.advanceStage_cfg : (s.advanceStage).cfg = s.cfg := rfl
@[simp] theorem State.advanceStage_score : (s.advanceStage).score = s.score := rfl
@[simp] theorem State.advanceStage_out : (s.advanceStage).out = s.out := rfl
@[simp] theorem State.advanceStage_activity : (s.advanceStage).activity = s.activity := rfl
@[simp] theorem State.advanceStage_script : (s.advanceStage).script = s.script := rfl
@[simp] theorem State.advanceStage_replies : (s.advanceStage).replies = s.replies := rfl

/-! `State.endTick` -/

@[simp] theorem State.endTick_voices (i : Nat) : (s.endTick i).voices = s.voices := rfl
@[simp] theorem State.endTick_cursor (i : Nat) : (s.endTick i).cursor = s.cursor := rfl
@[simp] theorem State.endTick_startPtr (i : Nat) : (s.endTick i).startPtr = s.startPtr := rfl
@[simp] theorem State.endTick_waitTicks (i : Nat) : (s.endTick i).waitTicks = s.waitTicks := rfl
@[simp] theorem State.endTick_scorePlaying (i : Nat) : (s.endTick i).scorePlaying = s.scorePlaying := rfl
@[simp] theorem State.endTick_volPresent (i : Nat) : (s.endTick i).volPresent = s.volPresent := rfl
@[simp] theorem State.endTick_nv (i : Nat) : (s.endTick i).nv = s.nv := rfl
@[simp] theorem State.endTick_prevActive (i : Nat) : (s.endTick i).prevActive = s.prevActive := rfl
@[simp] theorem State.endTick_lfsr (i : Nat) : (s.endTick i).lfsr = s.lfsr := rfl
@[simp] theorem State.endTick_cfg (i : Nat) : (s.endTick i).cfg = s.cfg := rfl
@[simp] theorem State.endTick_score (i : Nat) : (s.endTick i).score = s.score := rfl
@[simp] theorem State.endTick_out (i : Nat) : (s.endTick i).out = s.out := rfl
@[simp] theorem State.endTick_activity (i : Nat) : (s.endTick i).activity = if i + 1 < s.cfg.params.block then .tick (i + 1) else .idle := rfl
@[simp] theorem State.endTick_script (i : Nat) : (s.endTick i).script = s.script := rfl
@[simp] theorem State.endTick_replies (i : Nat) : (s.endTick i).replies = s.replies := rfl

/-! `State.finishTick` -/

@[simp] theorem State.finishTick_voices (i : Nat) : (s.finishTick i).voices = s.voices.map (advanceVoice s.cfg) := rfl
@[simp] theorem State.finishTick_cursor (i : Nat) : (s.finishTick i).cursor = s.cursor := rfl
@[simp] theorem State.finishTick_startPtr (i : Nat) : (s.finishTick i).startPtr = s.startPtr := rfl
@[simp] theorem State.finishTick_waitTicks (i : Nat) : (s.finishTick i).waitTicks = s.waitTicks := rfl
@[simp] theorem State.finishTick_scorePlaying (i : Nat) : (s.finishTick i).scorePlaying = s.scorePlaying := rfl
@[simp] theorem State.finishTick_volPresent (i : Nat) : (s.finishTick i).volPresent = s.volPresent := rfl
@[simp] theorem State.finishTick_nv (i : Nat) : (s.finishTick i).nv = s.nv := rfl
@[simp] theorem State.finishTick_prevActive (i : Nat) : (s.finishTick i).prevActive = s.activeCount := rfl
@[simp] theorem State.finishTick_lfsr (i : Nat) : (s.finishTick i).lfsr = s.lfsr := rfl
@[simp] theorem State.finishTick_cfg (i : Nat) : (s.finishTick i).cfg = s.cfg := rfl
@[simp] theorem State.finishTick_score (i : Nat) : (s.finishTick i).score = s.score := rfl
@[simp] theorem State.finishTick_out (i : Nat) : (s.finishTick i).out = s.out.set i (some s.mixSample) := rfl
@[simp] theorem State.finishTick_activity (i : Nat) : (s.finishTick i).activity = if i + 1 < s.cfg.params.block then .tick (i + 1) else .idle := rfl
@[simp] theorem State.finishTick_script (i : Nat) : (s.finishTick i).script = s.script := rfl
@[simp] theorem State.finishTick_replies (i : Nat) : (s.finishTick i).replies = s.replies := rfl

/-! `State.beginRender` -/

@[simp] theorem State.beginRender_voices : (s.beginRender).voices = s.voices := rfl
@[simp] theorem State.beginRender_cursor : (s.beginRender).cursor = s.cursor := rfl
@[simp] theorem State.beginRender_startPtr : (s.beginRender).startPtr = s.startPtr := rfl
@[simp] theorem State.beginRender_waitTicks : (s.beginRender).waitTicks = s.waitTicks := rfl
@[simp] theorem State.beginRender_scorePlaying : (s.beginRender).scorePlaying = s.scorePlaying := rfl
@[simp] theorem State.beginRender_volPresent : (s.beginRender).volPresent = s.volPresent := rfl
@[simp] theorem State.beginRender_nv : (s.beginRender).nv = s.nv := rfl
@[simp] theorem State.beginRender_prevActive : (s.beginRender).prevActive = s.prevActive := rfl
@[simp] theorem State.beginRender_lfsr : (s.beginRender).lfsr = s.lfsr := rfl
@[simp] theorem State.beginRender_cfg : (s.beginRender).cfg = s.cfg := rfl
@[simp] theorem State.beginRender_score : (s.beginRender).score = s.score := rfl
@[simp] theorem State.beginRender_out : (s.beginRender).out = List.replicate s.cfg.params.block none := rfl
@[simp] theorem State.beginRender_activity : (s.beginRender).activity = .tick 0 := rfl
@[simp] theorem State.beginRender_script : (s.beginRender).script = s.script := rfl
@[simp] theorem State.beginRender_replies : (s.beginRender).replies = s.replies := rfl

/-! `State.reply` -/

@[simp] theorem State.reply_voices : (s.reply).voices = s.voices := rfl
@[simp] theorem State.reply_cursor : (s.reply).cursor = s.cursor := rfl
@[simp] theorem State.reply_startPtr : (s.reply).startPtr = s.startPtr := rfl
@[simp] theorem State.reply_waitTicks : (s.reply).waitTicks = s.waitTicks := rfl
@[simp] theorem State.reply_scorePlaying : (s.reply).scorePlaying = s.scorePlaying := rfl
@[simp] theorem State.reply_volPresent : (s.reply).volPresent = s.volPresent := rfl
@[simp] theorem State.reply_nv : (s.reply).nv = s.nv := rfl
@[simp] theorem State.reply_prevActive : (s.reply).prevActive = s.prevActive := rfl
@[simp] theorem State.reply_lfsr : (s.reply).lfsr = s.lfsr := rfl
@[simp] theorem State.reply_cfg : (s.reply).cfg = s.cfg := rfl
@[simp] theorem State.reply_score : (s.reply).score = s.score := rfl
@[simp] theorem State.reply_out : (s.reply).out = s.out := rfl
@[simp] theorem State.reply_activity : (s.reply).activity = s.activity := rfl
@[simp] theorem State.reply_script : (s.reply).script = s.script := rfl
@[simp] theorem State.reply_replies : (s.reply).replies = s.replies ++ [s.scorePlaying] := rfl

/-! What STEP's return does to the place inside a transaction (40_score_interpreter.md R100). -/

theorem State.returnFromStep_start (h : s.activity = .interp .start) :
    s.returnFromStep.activity = .idle := by simp [State.returnFromStep, h]

theorem State.returnFromStep_tick (i : Nat) (h : s.activity = .interp (.tick i)) :
    s.returnFromStep.activity = .mix i := by simp [State.returnFromStep, h]

theorem State.returnFromStep_elsewhere (h : ∀ c, s.activity ≠ .interp c) :
    s.returnFromStep.activity = s.activity := by
  cases ha : s.activity <;> simp_all [State.returnFromStep]

end Sys2Proof.Machine
end

