-- ==== Sys2Proof/Laws/Ops.lean ====
section
/-! SUPPORT. The laws of the shared operations: the score memory reads back what was written and keeps its
canonical form, and one lemma for each operation on voices that says everything it can do. -/

namespace Sys2Proof.Machine

/-! The score memory. -/

theorem readCells_of_lt {pad : Byte} {a lo : Nat} {l : List Host.Cell} (h : cellsOk pad lo l = true)
    (ha : a < lo) : readCells pad a l = pad := by
  induction l generalizing lo with
  | nil => rfl
  | cons x r ih =>
    obtain ⟨k, v⟩ := x
    simp only [cellsOk, Bool.and_eq_true, decide_eq_true_eq] at h
    simp only [readCells]
    rw [if_neg (by omega)]
    exact ih h.2 (by omega)

theorem readCells_writeCells {pad b : Byte} {a lo : Nat} {l : List Host.Cell} (h : cellsOk pad lo l = true)
    (a' : Nat) :
    readCells pad a' (writeCells pad a b l) = if a' = a then b else readCells pad a' l := by
  induction l generalizing lo with
  | nil =>
    simp only [writeCells]
    split
    · next hb => by_cases haa : a' = a <;> simp [readCells, haa, hb]
    · simp only [readCells, eq_comm]
  | cons x r ih =>
    obtain ⟨k, v⟩ := x
    simp only [cellsOk, Bool.and_eq_true, decide_eq_true_eq] at h
    have hr := ih h.2
    simp only [writeCells]
    by_cases hlt : a < k
    · rw [if_pos hlt]
      by_cases hb : b = pad
      · rw [if_pos hb]
        by_cases haa : a' = a
        · subst haa
          rw [if_pos rfl, readCells, if_neg (by omega), hb]
          exact readCells_of_lt h.2 (by omega)
        · rw [if_neg haa]
      · rw [if_neg hb, readCells]
        by_cases haa : a' = a
        · rw [if_pos haa.symm, if_pos haa]
        · rw [if_neg (Ne.symm haa), if_neg haa]
    · rw [if_neg hlt]
      by_cases hak : a = k
      · rw [if_pos hak]
        by_cases hb : b = pad
        · rw [if_pos hb]
          by_cases haa : a' = a
          · rw [if_pos haa, haa, hak, hb]
            exact readCells_of_lt h.2 (by omega)
          · rw [if_neg haa, readCells, if_neg (by omega)]
        · rw [if_neg hb, readCells]
          by_cases haa : a' = a
          · rw [if_pos haa.symm, if_pos haa]
          · rw [if_neg (Ne.symm haa), if_neg haa, readCells, if_neg (by omega)]
      · rw [if_neg hak, readCells, readCells, hr]
        by_cases hk : k = a'
        · rw [if_pos hk, if_neg (by omega), if_pos hk]
        · rw [if_neg hk, if_neg hk]

theorem cellsOk_mono {pad : Byte} {lo lo' : Nat} {l : List Host.Cell} (h : cellsOk pad lo l = true)
    (hle : lo' ≤ lo) : cellsOk pad lo' l = true := by
  cases l with
  | nil => rfl
  | cons x r =>
    obtain ⟨k, v⟩ := x
    simp only [cellsOk, Bool.and_eq_true, decide_eq_true_eq] at h ⊢
    exact ⟨⟨⟨by omega, h.1.1.2⟩, h.1.2⟩, h.2⟩

theorem cellsOk_writeCells {pad b : Byte} {a lo : Nat} {l : List Host.Cell} (h : cellsOk pad lo l = true)
    (hlo : lo ≤ a) (ha : a < 2 ^ 32) : cellsOk pad lo (writeCells pad a b l) = true := by
  induction l generalizing lo with
  | nil =>
    by_cases hb : b = pad
    · simp [writeCells, hb, cellsOk]
    · simp [writeCells, hb, cellsOk, hlo]
      omega
  | cons x r ih =>
    obtain ⟨k, v⟩ := x
    have h0 := h
    simp only [cellsOk, Bool.and_eq_true, decide_eq_true_eq] at h
    simp only [writeCells]
    by_cases hlt : a < k
    · rw [if_pos hlt]
      by_cases hb : b = pad
      · rw [if_pos hb]; exact h0
      · rw [if_neg hb]
        simp only [cellsOk, Bool.and_eq_true, decide_eq_true_eq]
        exact ⟨⟨⟨hlo, ha⟩, hb⟩, ⟨⟨⟨by omega, h.1.1.2⟩, h.1.2⟩, h.2⟩⟩
    · rw [if_neg hlt]
      by_cases hak : a = k
      · rw [if_pos hak]
        by_cases hb : b = pad
        · rw [if_pos hb]; exact cellsOk_mono h.2 (by omega)
        · rw [if_neg hb]
          simp only [cellsOk, Bool.and_eq_true, decide_eq_true_eq]
          exact ⟨⟨⟨hlo, ha⟩, hb⟩, hak ▸ h.2⟩
      · rw [if_neg hak]
        simp only [cellsOk, Bool.and_eq_true, decide_eq_true_eq]
        exact ⟨h.1, ih h.2 (by omega)⟩

/-- A byte reads back as it was written, and a write leaves every other address alone. -/
theorem Memory.read_write {m : Memory} (h : m.wf = true) (a a' : Word) (b : Byte) :
    (m.write a b).read a' = if a' = a then b else m.read a' := by
  simp only [Memory.read, Memory.write]
  rw [readCells_writeCells (lo := 0) h]
  by_cases haa : a' = a
  · simp [haa]
  · have : a'.toNat ≠ a.toNat := fun e => haa (BitVec.eq_of_toNat_eq e)
    simp [haa, this]

/-- A write keeps the canonical form. -/
theorem Memory.write_wf {m : Memory} (h : m.wf = true) (a : Word) (b : Byte) : (m.write a b).wf = true :=
  cellsOk_writeCells h (Nat.zero_le _) a.isLt

/-! Operations on the voices. -/

/-- Everything NOTE_ON can do (41_voice_oscillator.md R130, R132, R133). -/
theorem State.noteOn_cases (s : State) (t : Nat) (n vel : Byte) :
    (s.voices[t]? = none ∧ s.noteOn t n vel = s) ∨
    (∃ v, s.voices[t]? = some v ∧
      ((isPercussion n = true ∧ drumOf s.cfg n = none ∧ s.noteOn t n vel = s) ∨
       (∃ d, isPercussion n = true ∧ drumOf s.cfg n = some d ∧
          s.noteOn t n vel = s.setVoice t (percussionOn s.cfg d vel v)) ∨
       (isPercussion n = false ∧
          s.noteOn t n vel =
            (s.setLfsr (lfsrNext s.lfsr)).setVoice t (melodicOn s.cfg n vel (lfsrNext s.lfsr) v)))) := by
  cases hv : s.voices[t]? with
  | none => exact .inl ⟨rfl, by simp [State.noteOn, hv]⟩
  | some v =>
    refine .inr ⟨v, rfl, ?_⟩
    cases hp : isPercussion n with
    | false => exact .inr (.inr ⟨rfl, by simp [State.noteOn, hv, hp]⟩)
    | true =>
      cases hd : drumOf s.cfg n with
      | none => exact .inl ⟨rfl, rfl, by simp [State.noteOn, hv, hp, hd]⟩
      | some d => exact .inr (.inl ⟨d, rfl, rfl, by simp [State.noteOn, hv, hp, hd]⟩)

/-- Everything NOTE_OFF can do (41_voice_oscillator.md R135). -/
theorem State.noteOff_cases (s : State) (t : Nat) :
    (s.voices[t]? = none ∧ s.noteOff t = s) ∨
    (∃ v, s.voices[t]? = some v ∧ s.noteOff t = s.setVoice t (noteOffVoice s.cfg v)) := by
  cases hv : s.voices[t]? with
  | none => exact .inl ⟨rfl, by simp [State.noteOff, hv]⟩
  | some v => exact .inr ⟨v, rfl, by simp [State.noteOff, hv]⟩

/-- Everything an instrument change can do (40_score_interpreter.md R108). -/
theorem State.selectInstrument_cases (s : State) (t : Nat) (k : Byte) :
    (s.voices[t]? = none ∧ s.selectInstrument t k = s) ∨
    (∃ v, s.voices[t]? = some v ∧ s.selectInstrument t k = s.setVoice t { v with instrSel := k }) := by
  cases hv : s.voices[t]? with
  | none => exact .inl ⟨rfl, by simp [State.selectInstrument, hv]⟩
  | some v => exact .inr ⟨v, rfl, by simp [State.selectInstrument, hv]⟩

/-- Everything stage 1 of a tick can do (44_render_step.md R197). -/
theorem State.countdown_cases (s : State) (i : Nat) :
    (s.scorePlaying = true ∧ s.waitTicks ≠ 0 ∧ s.waitTicks - 1 = 0 ∧
      s.countdown i = { s with waitTicks := 0, activity := .interp (.tick i) }) ∨
    (s.scorePlaying = true ∧ s.waitTicks ≠ 0 ∧ s.waitTicks - 1 ≠ 0 ∧
      s.countdown i = { s with waitTicks := s.waitTicks - 1, activity := .mix i }) ∨
    ((s.scorePlaying = false ∨ s.waitTicks = 0) ∧ s.countdown i = { s with activity := .mix i }) := by
  obtain ⟨vs, cu, sp, wt, pl, vp, nv, pa, l, cfg, sc, out, act, scr, rep⟩ := s
  simp only [State.countdown, State.waitActive, State.setWait, State.enterStep]
  cases pl with
  | false => exact .inr (.inr ⟨.inl rfl, by simp⟩)
  | true =>
    by_cases hw : wt = 0#32
    · exact .inr (.inr ⟨.inr hw, by simp [hw]⟩)
    · by_cases h1 : wt - 1#32 = 0#32
      · exact .inl ⟨rfl, hw, h1, by simp [h1, hw]⟩
      · exact .inr (.inl ⟨rfl, hw, h1, by simp [h1, hw]⟩)

end Sys2Proof.Machine
end

