-- ==== Sys2Proof/Laws/PerInstr.lean ====
section
/-! SUPPORT. Statements about every instruction as syntax, one lemma per constructor of Instr. -/

namespace Sys2Proof.Laws.EncodeLength

/-- A well-formed command is encoded in as many bytes as the decoder takes for its first byte
(30_encoding.md R82). -/
def Statement (i : Instr) : Prop :=
  ∀ vol : Bool, WellFormed vol i = true → (encode i).length = cmdLength vol ((encode i).headD 0)

theorem wait (ms : BitVec 15) : Statement (.wait ms) := by
  intro vol _; simp [encode, cmdLength]

theorem noteOff (t : BitVec 4) : Statement (.noteOff t) := by
  intro vol _; simp [encode, cmdLength]

theorem noteOn (t : BitVec 4) (n : BitVec 8) : Statement (.noteOn t n) := by
  intro vol h; simp [WellFormed] at h; simp [encode, cmdLength, h]

theorem noteOnVel (t : BitVec 4) (n vel : BitVec 8) : Statement (.noteOnVel t n vel) := by
  intro vol h; simp [WellFormed] at h; simp [encode, cmdLength, h]

theorem rsvdA (x : BitVec 4) : Statement (.rsvdA x) := by
  intro vol _; simp [encode, cmdLength]

theorem rsvdB (x : BitVec 4) : Statement (.rsvdB x) := by
  intro vol _; simp [encode, cmdLength]

theorem instr (t : BitVec 4) (id : BitVec 8) : Statement (.instr t id) := by
  intro vol _; simp [encode, cmdLength]

theorem rsvdD (x : BitVec 4) : Statement (.rsvdD x) := by
  intro vol _; simp [encode, cmdLength]

theorem restart (x : BitVec 4) : Statement (.restart x) := by
  intro vol _; simp [encode, cmdLength]

theorem stop (x : BitVec 4) : Statement (.stop x) := by
  intro vol _; simp [encode, cmdLength]

end Sys2Proof.Laws.EncodeLength
end

