-- ==== Sys2Proof/Laws/Run.lean ====
section
/-! SUPPORT. Runs of the machine, one step at a time and one after another. -/

namespace Sys2Proof.Machine

theorem runsTo_zero (s : State) : RunsTo 0 s s := rfl

/-- A run of `k + 1` steps is one step and a run of `k` steps. -/
theorem runsTo_succ {k : Nat} {s s' t : State} (h : step s = .next s') : RunsTo (k + 1) s t ↔ RunsTo k s' t := by
  simp only [RunsTo, Host.Core.run]
  rw [show Sys2Proof.core.step s = step s from rfl, h]

/-- A state that steps to itself stays. -/
theorem runsTo_self {s : State} (h : step s = .next s) (k : Nat) : RunsTo k s s := by
  induction k with
  | zero => rfl
  | succ k ih => exact (runsTo_succ h).2 ih

/-- Everything the host's script can make an idle block do (00_scope.md R7). -/
theorem idleStep_cases {s : State} (h : s.activity = .idle) :
    (s.script = [] ∧ step s = .next s) ∨
    (∃ op rest, s.script = op :: rest ∧ step s = .next (({ s with script := rest } : State).host op)) := by
  cases hs : s.script with
  | nil => exact .inl ⟨rfl, by simp [step, h, State.idleStep, hs]⟩
  | cons op rest => exact .inr ⟨op, rest, rfl, by simp [step, h, State.idleStep, hs]⟩

end Sys2Proof.Machine
end

