-- ==== Sys2Proof/Laws/Voice.lean ====
section
/-! SUPPORT. What the envelope procedures leave alone in a voice record: they write `env_state`, `env_level`,
`env_inc` and `env_count`, and only the way to Idle writes `playing` (42_envelope.md R160, R173). -/

namespace Sys2Proof.Machine

/-! `envEnterSustain` -/

@[simp] theorem envEnterSustain_perc (i : Instrument) (v : Voice) : (envEnterSustain i v).perc = v.perc := rfl
@[simp] theorem envEnterSustain_phase (i : Instrument) (v : Voice) : (envEnterSustain i v).phase = v.phase := rfl
@[simp] theorem envEnterSustain_inc (i : Instrument) (v : Voice) : (envEnterSustain i v).inc = v.inc := rfl
@[simp] theorem envEnterSustain_vscale (i : Instrument) (v : Voice) : (envEnterSustain i v).vscale = v.vscale := rfl
@[simp] theorem envEnterSustain_instrSel (i : Instrument) (v : Voice) : (envEnterSustain i v).instrSel = v.instrSel := rfl
@[simp] theorem envEnterSustain_actRef (i : Instrument) (v : Voice) : (envEnterSustain i v).actRef = v.actRef := rfl
@[simp] theorem envEnterSustain_endIdx (i : Instrument) (v : Voice) : (envEnterSustain i v).endIdx = v.endIdx := rfl
@[simp] theorem envEnterSustain_playing (i : Instrument) (v : Voice) : (envEnterSustain i v).playing = v.playing := rfl

/-! `envEnterDecay` -/

@[simp] theorem envEnterDecay_perc (i : Instrument) (v : Voice) : (envEnterDecay i v).perc = v.perc := by
  simp only [envEnterDecay]; repeat' split
  all_goals simp
@[simp] theorem envEnterDecay_phase (i : Instrument) (v : Voice) : (envEnterDecay i v).phase = v.phase := by
  simp only [envEnterDecay]; repeat' split
  all_goals simp
@[simp] theorem envEnterDecay_inc (i : Instrument) (v : Voice) : (envEnterDecay i v).inc = v.inc := by
  simp only [envEnterDecay]; repeat' split
  all_goals simp
@[simp] theorem envEnterDecay_vscale (i : Instrument) (v : Voice) : (envEnterDecay i v).vscale = v.vscale := by
  simp only [envEnterDecay]; repeat' split
  all_goals simp
@[simp] theorem envEnterDecay_instrSel (i : Instrument) (v : Voice) : (envEnterDecay i v).instrSel = v.instrSel := by
  simp only [envEnterDecay]; repeat' split
  all_goals simp
@[simp] theorem envEnterDecay_actRef (i : Instrument) (v : Voice) : (envEnterDecay i v).actRef = v.actRef := by
  simp only [envEnterDecay]; repeat' split
  all_goals simp
@[simp] theorem envEnterDecay_endIdx (i : Instrument) (v : Voice) : (envEnterDecay i v).endIdx = v.endIdx := by
  simp only [envEnterDecay]; repeat' split
  all_goals simp
@[simp] theorem envEnterDecay_playing (i : Instrument) (v : Voice) : (envEnterDecay i v).playing = v.playing := by
  simp only [envEnterDecay]; repeat' split
  all_goals simp

/-! `envEnterHold` -/

@[simp] theorem envEnterHold_perc (i : Instrument) (v : Voice) : (envEnterHold i v).perc = v.perc := by
  simp only [envEnterHold]; repeat' split
  all_goals simp
@[simp] theorem envEnterHold_phase (i : Instrument) (v : Voice) : (envEnterHold i v).phase = v.phase := by
  simp only [envEnterHold]; repeat' split
  all_goals simp
@[simp] theorem envEnterHold_inc (i : Instrument) (v : Voice) : (envEnterHold i v).inc = v.inc := by
  simp only [envEnterHold]; repeat' split
  all_goals simp
@[simp] theorem envEnterHold_vscale (i : Instrument) (v : Voice) : (envEnterHold i v).vscale = v.vscale := by
  simp only [envEnterHold]; repeat' split
  all_goals simp
@[simp] theorem envEnterHold_instrSel (i : Instrument) (v : Voice) : (envEnterHold i v).instrSel = v.instrSel := by
  simp only [envEnterHold]; repeat' split
  all_goals simp
@[simp] theorem envEnterHold_actRef (i : Instrument) (v : Voice) : (envEnterHold i v).actRef = v.actRef := by
  simp only [envEnterHold]; repeat' split
  all_goals simp
@[simp] theorem envEnterHold_endIdx (i : Instrument) (v : Voice) : (envEnterHold i v).endIdx = v.endIdx := by
  simp only [envEnterHold]; repeat' split
  all_goals simp
@[simp] theorem envEnterHold_playing (i : Instrument) (v : Voice) : (envEnterHold i v).playing = v.playing := by
  simp only [envEnterHold]; repeat' split
  all_goals simp

/-! `envEnterAttack` -/

@[simp] theorem envEnterAttack_perc (i : Instrument) (v : Voice) : (envEnterAttack i v).perc = v.perc := by
  simp only [envEnterAttack]; repeat' split
  all_goals simp
@[simp] theorem envEnterAttack_phase (i : Instrument) (v : Voice) : (envEnterAttack i v).phase = v.phase := by
  simp only [envEnterAttack]; repeat' split
  all_goals simp
@[simp] theorem envEnterAttack_inc (i : Instrument) (v : Voice) : (envEnterAttack i v).inc = v.inc := by
  simp only [envEnterAttack]; repeat' split
  all_goals simp
@[simp] theorem envEnterAttack_vscale (i : Instrument) (v : Voice) : (envEnterAttack i v).vscale = v.vscale := by
  simp only [envEnterAttack]; repeat' split
  all_goals simp
@[simp] theorem envEnterAttack_instrSel (i : Instrument) (v : Voice) : (envEnterAttack i v).instrSel = v.instrSel := by
  simp only [envEnterAttack]; repeat' split
  all_goals simp
@[simp] theorem envEnterAttack_actRef (i : Instrument) (v : Voice) : (envEnterAttack i v).actRef = v.actRef := by
  simp only [envEnterAttack]; repeat' split
  all_goals simp
@[simp] theorem envEnterAttack_endIdx (i : Instrument) (v : Voice) : (envEnterAttack i v).endIdx = v.endIdx := by
  simp only [envEnterAttack]; repeat' split
  all_goals simp
@[simp] theorem envEnterAttack_playing (i : Instrument) (v : Voice) : (envEnterAttack i v).playing = v.playing := by
  simp only [envEnterAttack]; repeat' split
  all_goals simp

/-! `envEnterDelay` -/

@[simp] theorem envEnterDelay_perc (i : Instrument) (v : Voice) : (envEnterDelay i v).perc = v.perc := by
  simp only [envEnterDelay]; repeat' split
  all_goals simp
@[simp] theorem envEnterDelay_phase (i : Instrument) (v : Voice) : (envEnterDelay i v).phase = v.phase := by
  simp only [envEnterDelay]; repeat' split
  all_goals simp
@[simp] theorem envEnterDelay_inc (i : Instrument) (v : Voice) : (envEnterDelay i v).inc = v.inc := by
  simp only [envEnterDelay]; repeat' split
  all_goals simp
@[simp] theorem envEnterDelay_vscale (i : Instrument) (v : Voice) : (envEnterDelay i v).vscale = v.vscale := by
  simp only [envEnterDelay]; repeat' split
  all_goals simp
@[simp] theorem envEnterDelay_instrSel (i : Instrument) (v : Voice) : (envEnterDelay i v).instrSel = v.instrSel := by
  simp only [envEnterDelay]; repeat' split
  all_goals simp
@[simp] theorem envEnterDelay_actRef (i : Instrument) (v : Voice) : (envEnterDelay i v).actRef = v.actRef := by
  simp only [envEnterDelay]; repeat' split
  all_goals simp
@[simp] theorem envEnterDelay_endIdx (i : Instrument) (v : Voice) : (envEnterDelay i v).endIdx = v.endIdx := by
  simp only [envEnterDelay]; repeat' split
  all_goals simp
@[simp] theorem envEnterDelay_playing (i : Instrument) (v : Voice) : (envEnterDelay i v).playing = v.playing := by
  simp only [envEnterDelay]; repeat' split
  all_goals simp

/-! `envFullScale` -/

@[simp] theorem envFullScale_perc (v : Voice) : (envFullScale v).perc = v.perc := rfl
@[simp] theorem envFullScale_phase (v : Voice) : (envFullScale v).phase = v.phase := rfl
@[simp] theorem envFullScale_inc (v : Voice) : (envFullScale v).inc = v.inc := rfl
@[simp] theorem envFullScale_vscale (v : Voice) : (envFullScale v).vscale = v.vscale := rfl
@[simp] theorem envFullScale_instrSel (v : Voice) : (envFullScale v).instrSel = v.instrSel := rfl
@[simp] theorem envFullScale_actRef (v : Voice) : (envFullScale v).actRef = v.actRef := rfl
@[simp] theorem envFullScale_endIdx (v : Voice) : (envFullScale v).endIdx = v.endIdx := rfl
@[simp] theorem envFullScale_playing (v : Voice) : (envFullScale v).playing = v.playing := rfl

/-! `envNone` -/

@[simp] theorem envNone_perc (v : Voice) : (envNone v).perc = v.perc := rfl
@[simp] theorem envNone_phase (v : Voice) : (envNone v).phase = v.phase := rfl
@[simp] theorem envNone_inc (v : Voice) : (envNone v).inc = v.inc := rfl
@[simp] theorem envNone_vscale (v : Voice) : (envNone v).vscale = v.vscale := rfl
@[simp] theorem envNone_instrSel (v : Voice) : (envNone v).instrSel = v.instrSel := rfl
@[simp] theorem envNone_actRef (v : Voice) : (envNone v).actRef = v.actRef := rfl
@[simp] theorem envNone_endIdx (v : Voice) : (envNone v).endIdx = v.endIdx := rfl
@[simp] theorem envNone_playing (v : Voice) : (envNone v).playing = v.playing := rfl

/-! `envToIdle` -/

@[simp] theorem envToIdle_perc (v : Voice) : (envToIdle v).perc = v.perc := rfl
@[simp] theorem envToIdle_phase (v : Voice) : (envToIdle v).phase = v.phase := rfl
@[simp] theorem envToIdle_inc (v : Voice) : (envToIdle v).inc = v.inc := rfl
@[simp] theorem envToIdle_vscale (v : Voice) : (envToIdle v).vscale = v.vscale := rfl
@[simp] theorem envToIdle_instrSel (v : Voice) : (envToIdle v).instrSel = v.instrSel := rfl
@[simp] theorem envToIdle_actRef (v : Voice) : (envToIdle v).actRef = v.actRef := rfl
@[simp] theorem envToIdle_endIdx (v : Voice) : (envToIdle v).endIdx = v.endIdx := rfl

/-! `envEnterRelease` -/

@[simp] theorem envEnterRelease_perc (i : Instrument) (v : Voice) : (envEnterRelease i v).perc = v.perc := by
  simp only [envEnterRelease]; repeat' split
  all_goals simp
@[simp] theorem envEnterRelease_phase (i : Instrument) (v : Voice) : (envEnterRelease i v).phase = v.phase := by
  simp only [envEnterRelease]; repeat' split
  all_goals simp
@[simp] theorem envEnterRelease_inc (i : Instrument) (v : Voice) : (envEnterRelease i v).inc = v.inc := by
  simp only [envEnterRelease]; repeat' split
  all_goals simp
@[simp] theorem envEnterRelease_vscale (i : Instrument) (v : Voice) : (envEnterRelease i v).vscale = v.vscale := by
  simp only [envEnterRelease]; repeat' split
  all_goals simp
@[simp] theorem envEnterRelease_instrSel (i : Instrument) (v : Voice) : (envEnterRelease i v).instrSel = v.instrSel := by
  simp only [envEnterRelease]; repeat' split
  all_goals simp
@[simp] theorem envEnterRelease_actRef (i : Instrument) (v : Voice) : (envEnterRelease i v).actRef = v.actRef := by
  simp only [envEnterRelease]; repeat' split
  all_goals simp
@[simp] theorem envEnterRelease_endIdx (i : Instrument) (v : Voice) : (envEnterRelease i v).endIdx = v.endIdx := by
  simp only [envEnterRelease]; repeat' split
  all_goals simp

/-! `envCountDown` -/

@[simp] theorem envCountDown_perc (v : Voice) : (envCountDown v).perc = v.perc := rfl
@[simp] theorem envCountDown_phase (v : Voice) : (envCountDown v).phase = v.phase := rfl
@[simp] theorem envCountDown_inc (v : Voice) : (envCountDown v).inc = v.inc := rfl
@[simp] theorem envCountDown_vscale (v : Voice) : (envCountDown v).vscale = v.vscale := rfl
@[simp] theorem envCountDown_instrSel (v : Voice) : (envCountDown v).instrSel = v.instrSel := rfl
@[simp] theorem envCountDown_actRef (v : Voice) : (envCountDown v).actRef = v.actRef := rfl
@[simp] theorem envCountDown_endIdx (v : Voice) : (envCountDown v).endIdx = v.endIdx := rfl
@[simp] theorem envCountDown_playing (v : Voice) : (envCountDown v).playing = v.playing := rfl

/-! `envLeave` -/

@[simp] theorem envLeave_perc (i : Instrument) (v : Voice) : (envLeave i v).perc = v.perc := by
  simp only [envLeave]; repeat' split
  all_goals simp
@[simp] theorem envLeave_phase (i : Instrument) (v : Voice) : (envLeave i v).phase = v.phase := by
  simp only [envLeave]; repeat' split
  all_goals simp
@[simp] theorem envLeave_inc (i : Instrument) (v : Voice) : (envLeave i v).inc = v.inc := by
  simp only [envLeave]; repeat' split
  all_goals simp
@[simp] theorem envLeave_vscale (i : Instrument) (v : Voice) : (envLeave i v).vscale = v.vscale := by
  simp only [envLeave]; repeat' split
  all_goals simp
@[simp] theorem envLeave_instrSel (i : Instrument) (v : Voice) : (envLeave i v).instrSel = v.instrSel := by
  simp only [envLeave]; repeat' split
  all_goals simp
@[simp] theorem envLeave_actRef (i : Instrument) (v : Voice) : (envLeave i v).actRef = v.actRef := by
  simp only [envLeave]; repeat' split
  all_goals simp
@[simp] theorem envLeave_endIdx (i : Instrument) (v : Voice) : (envLeave i v).endIdx = v.endIdx := by
  simp only [envLeave]; repeat' split
  all_goals simp

/-! `envTick` -/

@[simp] theorem envTick_perc (i : Instrument) (v : Voice) : (envTick i v).perc = v.perc := by
  simp only [envTick]; repeat' split
  all_goals simp
@[simp] theorem envTick_phase (i : Instrument) (v : Voice) : (envTick i v).phase = v.phase := by
  simp only [envTick]; repeat' split
  all_goals simp
@[simp] theorem envTick_inc (i : Instrument) (v : Voice) : (envTick i v).inc = v.inc := by
  simp only [envTick]; repeat' split
  all_goals simp
@[simp] theorem envTick_vscale (i : Instrument) (v : Voice) : (envTick i v).vscale = v.vscale := by
  simp only [envTick]; repeat' split
  all_goals simp
@[simp] theorem envTick_instrSel (i : Instrument) (v : Voice) : (envTick i v).instrSel = v.instrSel := by
  simp only [envTick]; repeat' split
  all_goals simp
@[simp] theorem envTick_actRef (i : Instrument) (v : Voice) : (envTick i v).actRef = v.actRef := by
  simp only [envTick]; repeat' split
  all_goals simp
@[simp] theorem envTick_endIdx (i : Instrument) (v : Voice) : (envTick i v).endIdx = v.endIdx := by
  simp only [envTick]; repeat' split
  all_goals simp

/-! `envStart` -/

@[simp] theorem envStart_perc (c : Config) (v : Voice) : (envStart c v).perc = v.perc := by
  simp only [envStart]; repeat' split
  all_goals simp
@[simp] theorem envStart_phase (c : Config) (v : Voice) : (envStart c v).phase = v.phase := by
  simp only [envStart]; repeat' split
  all_goals simp
@[simp] theorem envStart_inc (c : Config) (v : Voice) : (envStart c v).inc = v.inc := by
  simp only [envStart]; repeat' split
  all_goals simp
@[simp] theorem envStart_vscale (c : Config) (v : Voice) : (envStart c v).vscale = v.vscale := by
  simp only [envStart]; repeat' split
  all_goals simp
@[simp] theorem envStart_instrSel (c : Config) (v : Voice) : (envStart c v).instrSel = v.instrSel := by
  simp only [envStart]; repeat' split
  all_goals simp
@[simp] theorem envStart_actRef (c : Config) (v : Voice) : (envStart c v).actRef = v.actRef := by
  simp only [envStart]; repeat' split
  all_goals simp
@[simp] theorem envStart_endIdx (c : Config) (v : Voice) : (envStart c v).endIdx = v.endIdx := by
  simp only [envStart]; repeat' split
  all_goals simp
@[simp] theorem envStart_playing (c : Config) (v : Voice) : (envStart c v).playing = v.playing := by
  simp only [envStart]; repeat' split
  all_goals simp

@[simp] theorem envToIdle_playing (v : Voice) : (envToIdle v).playing = false := rfl

/-- Stage 3 of a tick writes neither `instr_sel` nor the registers that only a note-on writes
(44_render_step.md R203). -/
theorem advanceVoice_frame (c : Config) (v : Voice) :
    (advanceVoice c v).instrSel = v.instrSel ∧ (advanceVoice c v).perc = v.perc ∧
    (advanceVoice c v).inc = v.inc ∧ (advanceVoice c v).vscale = v.vscale ∧
    (advanceVoice c v).actRef = v.actRef ∧ (advanceVoice c v).endIdx = v.endIdx := by
  unfold advanceVoice
  split
  · simp
  · split <;> simp [percussionAdvance, melodicPhase]

/-- Note-off writes none of the registers that only a note-on or an instrument change writes
(41_voice_oscillator.md R135, 42_envelope.md R173). -/
theorem noteOffVoice_frame (c : Config) (v : Voice) :
    (noteOffVoice c v).instrSel = v.instrSel ∧ (noteOffVoice c v).perc = v.perc ∧
    (noteOffVoice c v).inc = v.inc ∧ (noteOffVoice c v).vscale = v.vscale ∧
    (noteOffVoice c v).actRef = v.actRef ∧ (noteOffVoice c v).endIdx = v.endIdx ∧
    (noteOffVoice c v).phase = v.phase := by
  unfold noteOffVoice
  repeat' split
  all_goals simp

/-- Stage 3 on a melodic voice: the phase advances, then the envelope ticks (44_render_step.md R199). -/
theorem advanceVoice_melodic {c : Config} {v : Voice} (h : v.melodic = true) :
    advanceVoice c v = envTick (instrument c v.actRef.toNat) (melodicPhase v) := by
  simp [Voice.melodic] at h
  simp [advanceVoice, h]

/-- Stage 3 on a percussion voice (44_render_step.md R199). -/
theorem advanceVoice_percussive {c : Config} {v : Voice} (h : v.percussive = true) :
    advanceVoice c v = percussionAdvance v := by
  simp [Voice.percussive] at h
  simp [advanceVoice, h]

/-- Stage 3 on a melodic voice in a timed envelope state: the segment is left in its last tick
(42_envelope.md R170). -/
theorem advanceVoice_timed {c : Config} {v : Voice} (h : v.melodic = true) (ht : v.envState.timed = true) :
    advanceVoice c v =
      if v.envCount = 1 then envLeave (instrument c v.actRef.toNat) (envCountDown (melodicPhase v))
      else envCountDown (melodicPhase v) := by
  rw [advanceVoice_melodic h]
  have hc : v.envCount - 1#32 = 0#32 ↔ v.envCount = 1#32 := by
    constructor <;> intro h <;> bv_omega
  simp [envTick, melodicPhase, ht, envCountDown, hc]

end Sys2Proof.Machine
end

