-- ==== Sys2Proof/Tests/Slice0.lean ====
section
/-! SUPPORT. Tests: words of the encoding, well-formedness, one step of each command on a small state (expected
values from 95_test_vectors.md and the worked examples of the rules), and for every statement with
hypotheses a concrete input that meets them. -/

namespace Sys2Proof.Tests

open Sys2Proof Sys2Proof.Machine Sys2Proof.Claims

/-! Helpers. -/

/-- A score of these bytes at `base`, the rest 0xF0. -/
def mem (base : Nat) (bytes : List Nat) : Memory :=
  bytes.zipIdx.foldl (fun m b => m.write (BitVec.ofNat 32 (base + b.2)) (BitVec.ofNat 8 b.1)) ⟨0xF0, []⟩

/-- `p` of the next state, false where there is none. -/
def after (o : Host.Outcome State Fault Refusal) (p : State → Bool) : Bool :=
  match o with
  | .next t => p t
  | .fault _ | .refused _ => false

/-- The configuration with these parameters, TC1 where they are ill formed. -/
def conf (p : Params) : Config := (Config.ofParams p).getD Config.tc1

/-- STEP, invoked by START, at `bytes` placed at 0x100, with `nv` voices. -/
def inStep (vol : Bool) (nv : Nat) (bytes : List Nat) : State :=
  { State.reset with
    activity := .interp .start, cursor := 0x100, startPtr := 0x100, scorePlaying := true, volPresent := vol,
    nv := BitVec.ofNat 5 nv, score := mem 0x100 bytes }

/-- Voice `u` of `s` replaced. -/
def withVoice (s : State) (u : Nat) (v : Voice) : State := { s with voices := s.voices.set u v }

/-- A block that stands at a place inside a RENDER. -/
def inTick (a : Activity) (w : Nat) : State :=
  { State.reset with activity := a, scorePlaying := true, waitTicks := BitVec.ofNat 32 w }

/-- An idle block before `bytes` at 0x100, with a host that will do `ops`. -/
def host (bytes : List Nat) (ops : List HostOp) : State := State.resetWith Config.tc1 (mem 0x100 bytes) ops

/-- Note 60 at velocity 127 with instrument 0 in its second tick: Attack (44_render_step.md R206). -/
def attackVoice : Voice :=
  { Voice.reset Config.tc1 with
    playing := true, phase := 0xB984CBB6, inc := 0x0184CBB6, vscale := 127, envState := .attack,
    envLevel := 0x10000000, envInc := 0x10000000, envCount := 3 }

/-- The same note in Sustain. -/
def sustainVoice : Voice :=
  { attackVoice with envState := .sustain, envLevel := 0x20000000, envInc := 0, envCount := 0 }

/-- The same note in the last tick of its Release. -/
def releaseVoice : Voice :=
  { attackVoice with envState := .release, envLevel := 0x04000000, envInc := -0x04000000#32, envCount := 1 }

/-- A note of instrument 1 in its Delay. -/
def delayVoice : Voice :=
  { attackVoice with actRef := 1, envState := .delay, envLevel := 0, envInc := 0, envCount := 2 }

/-- The note of `attackVoice` in Hold, and in Decay (R165, R166 with the row `INSTR[0]`). -/
def holdVoice : Voice :=
  { attackVoice with envState := .hold, envLevel := 0x40000000, envInc := 0, envCount := 2 }
def decayVoice : Voice :=
  { attackVoice with envState := .decay, envLevel := 0x40000000, envInc := -0x08000000#32, envCount := 4 }

/-- Drum 0 just begun (V24). -/
def drumVoice : Voice :=
  { Voice.reset Config.tc1 with playing := true, perc := true, inc := 0x8000, vscale := 127, endIdx := 7 }

/-! Decoding: words written out from the encodings of 30_encoding.md, as in the vectors V1 to V18. -/

theorem test_decode_wait : decode false [0x07, 0xD0] = .ok (.wait 2000, []) := by decide
theorem test_decode_noteOff : decode true [0x8F] = .ok (.noteOff 15, []) := by decide
theorem test_decode_noteOn : decode false [0x93, 0x3C, 0x40] = .ok (.noteOn 3 60, [0x40]) := by decide
theorem test_decode_noteOnVel : decode true [0x93, 0x3C, 0x40] = .ok (.noteOnVel 3 60 64, []) := by decide
theorem test_decode_rsvdA : decode false [0xA3] = .ok (.rsvdA 3, []) := by decide
theorem test_decode_rsvdB : decode false [0xB0] = .ok (.rsvdB 0, []) := by decide
theorem test_decode_instr : decode false [0xC2, 0x80] = .ok (.instr 2 128, []) := by decide
theorem test_decode_rsvdD : decode false [0xDF] = .ok (.rsvdD 15, []) := by decide
theorem test_decode_restart : decode true [0xE7] = .ok (.restart 7, []) := by decide
theorem test_decode_stop : decode true [0xF0] = .ok (.stop 0, []) := by decide

theorem test_decode_rejects : decode true [] = .error .noBytes ∧ decode true [0x93, 0x3C] = .error .truncated := by
  decide

theorem test_encode : encode (.wait 2000) = [0x07, 0xD0] ∧ encode (.noteOnVel 3 60 64) = [0x93, 0x3C, 0x40] := by
  decide

theorem test_table_words :
    decodeTableWord 16 0xD007 = some (.wait 2000) ∧ decodeTableWord 16 0x3C93 = some (.noteOn 3 60) ∧
    decodeTableWord 24 0x403C93 = some (.noteOnVel 3 60 64) ∧ decodeTableWord 8 0xE7 = some (.restart 7) ∧
    decodeTableWord 16 0x01C2 = some (.instr 2 1) := by decide

/-! WellFormed and Emittable refuse ill-formed terms. -/

theorem test_wellFormed_noteOn : WellFormed true (.noteOn 3 60) = false ∧ WellFormed false (.noteOn 3 60) = true := by
  decide
theorem test_wellFormed_noteOnVel :
    WellFormed false (.noteOnVel 3 60 64) = false ∧ WellFormed true (.noteOnVel 3 60 64) = true := by decide
theorem test_emittable_refuses :
    Emittable (.rsvdA 0) = false ∧ Emittable (.rsvdB 0) = false ∧ Emittable (.rsvdD 0) = false ∧
    Emittable (.restart 7) = false ∧ Emittable (.stop 1) = false ∧ Emittable (.wait 0) = false := by decide
theorem test_config_refuses :
    Config.ofParams { tc1Params with nvoices := 17 } = none ∧
    Config.ofParams { tc1Params with drumMap := [] } = none ∧
    Config.ofParams { tc1Params with numInstr := 1 } = none ∧
    Config.ofParams { tc1Params with numWaves := 3 } = none ∧
    Config.ofParams { tc1Params with numDrums := 0 } = none ∧
    Config.ofParams { tc1Params with atten := 0 :: tc1Params.atten.tail } = none := by decide +kernel

/-- The parameters with no value given but the five tables that have no default. -/
def defaultParams : Params where
  instr := [{ wave := 0, delay := 0, attack := 0, hold := 0, decay := 0, sustain := 0, release := 0 }]
  wave := [tc1Saw]
  drum := []
  patchMap := List.replicate 128 0
  drumMap := List.replicate 128 0xFF

/-- The default column of R4; with one instrument, one waveform and no drum it is a configuration. -/
theorem test_default_parameters :
    (defaultParams.nvoices = 16 ∧ defaultParams.fsHz = 44100 ∧ defaultParams.block = 128 ∧
      defaultParams.noteMin = 0 ∧ defaultParams.noteMax = 127 ∧ defaultParams.defaultVelocity = 127 ∧
      defaultParams.defaultVolumePresent = false ∧ defaultParams.defaultInstrument = 0 ∧
      defaultParams.hdrSig0 = 0x50 ∧ defaultParams.hdrSig1 = 0x74) ∧
    (defaultParams.percussionEn = true ∧ defaultParams.envelopeEn = true ∧ defaultParams.dynamicAtten = false) ∧
    (defaultParams.numInstr = 1 ∧ defaultParams.numWaves = 1 ∧ defaultParams.numDrums = 0) ∧
    (Config.ofParams defaultParams).isSome := by decide +kernel

/-! One step of each command. -/

/-- V3. -/
theorem test_wait : after (step (inStep true 1 [0x03, 0xE8])) (fun t =>
    decide (t.waitTicks = 44100 ∧ t.cursor = 0x102 ∧ t.activity = .idle)) = true := by decide +kernel

/-- V19: the second byte is at address 0. -/
theorem test_wait_wraps :
    after (step { inStep true 1 [] with cursor := 0xFFFFFFFF, score := (mem 0 [0x01]).write 0xFFFFFFFF 0 })
      (fun t => decide (t.waitTicks = 44 ∧ t.cursor = 1)) = true := by decide +kernel

/-- The example of R110's release: level 0x20000000 over 8 ticks. -/
theorem test_noteOff : after (step (withVoice (inStep true 1 [0x80]) 0 sustainVoice)) (fun t =>
    decide (t.voices[0]? = some { sustainVoice with envState := .release, envInc := -0x04000000#32, envCount := 8 } ∧
      t.cursor = 0x101)) = true := by decide +kernel

/-- V5: ignored. -/
theorem test_noteOff_out_of_range : after (step (withVoice (inStep true 4 [0x8F]) 15 sustainVoice)) (fun t =>
    decide (t.voices[15]? = some sustainVoice ∧ t.cursor = 0x101)) = true := by decide +kernel

/-- V6 with V21's register values: DEFAULT_VELOCITY, first value of the generator. -/
theorem test_noteOn : after (step (inStep false 16 [0x93, 0x3C, 0x40])) (fun t =>
    decide (t.cursor = 0x102 ∧ t.lfsr = 0xB8 ∧
      t.voices[3]? = some { Voice.reset Config.tc1 with
        playing := true, phase := 0xB8000000, inc := 0x0184CBB6, vscale := 127, envState := .attack,
        envInc := 0x10000000, envCount := 4 })) = true := by decide +kernel

/-- V24: percussion, the generator does not move. -/
theorem test_noteOn_percussion : after (step (inStep false 16 [0x90, 0x80])) (fun t =>
    decide (t.cursor = 0x102 ∧ t.lfsr = 0x01 ∧ t.voices[0]? = some drumVoice)) = true := by decide +kernel

/-- V21's second note, from the generator's first value. -/
theorem test_noteOnVel : after (step { inStep true 16 [0x91, 0x45, 0x40] with lfsr := 0xB8 }) (fun t =>
    decide (t.cursor = 0x103 ∧ t.lfsr = 0x5C ∧ (t.voices[1]?).map (fun v => (v.phase, v.inc, v.vscale)) =
      some (0x5C000000, 0x028DDFB9, 64))) = true := by decide +kernel

/-- V8: ignored, both operands passed over. -/
theorem test_noteOnVel_out_of_range : after (step (inStep true 2 [0x93, 0x3C, 0x40])) (fun t =>
    decide (t.cursor = 0x103 ∧ t.lfsr = 0x01 ∧ t.voices = (inStep true 2 []).voices)) = true := by decide +kernel

/-- V14, on a sounding voice: `act_ref` stays. -/
theorem test_instr : after (step (withVoice (inStep true 16 [0xC2, 0x01]) 2 sustainVoice)) (fun t =>
    decide (t.cursor = 0x102 ∧ t.voices[2]? = some { sustainVoice with instrSel := 1 })) = true := by decide +kernel

/-- V15: ignored. -/
theorem test_instr_high_id : after (step (inStep true 16 [0xC2, 0x80])) (fun t =>
    decide (t.cursor = 0x102 ∧ t.voices = State.reset.voices)) = true := by decide +kernel

/-- V16. -/
theorem test_restart : after (step { inStep true 16 [0xE7] with startPtr := 0x80 }) (fun t =>
    decide (t.cursor = 0x80 ∧ t.activity = .interp .start ∧ t.waitTicks = 0)) = true := by decide +kernel

/-- V17 inside a tick, with a drum and a sustained note sounding. -/
theorem test_stop :
    after (step { withVoice (withVoice (inStep true 16 [0xFF]) 0 sustainVoice) 1 drumVoice with
        activity := .interp (.tick 5) }) (fun t =>
      decide (t.cursor = 0x101 ∧ t.scorePlaying = false ∧ t.waitTicks = 0 ∧ t.activity = .mix 5 ∧
        (t.voices.take 2).map (fun v => (v.playing, v.envState)) = [(true, .release), (false, .idle)])) = true := by
  decide +kernel

/-- V18. -/
theorem test_rsvdA : after (step (inStep true 16 [0xA3])) (fun t =>
    decide (t = { inStep true 16 [0xA3] with cursor := 0x101 })) = true := by decide +kernel
/-- V18. -/
theorem test_rsvdB : after (step (inStep true 16 [0xB0])) (fun t =>
    decide (t = { inStep true 16 [0xB0] with cursor := 0x101 })) = true := by decide +kernel
/-- V18. -/
theorem test_rsvdD : after (step (inStep true 16 [0xDF])) (fun t =>
    decide (t = { inStep true 16 [0xDF] with cursor := 0x101 })) = true := by decide +kernel

/-! One step of a tick and of the control surface. -/

/-- R206, tick 2 with `nv = 1`: sample 3652, level 0x20000000, count 2, phase 0xBB09976C. -/
theorem test_mix : after (step { withVoice (inTick (.mix 0) 43) 0 attackVoice with nv := 1 }) (fun t =>
    decide (t.out[0]? = some (some 3652) ∧ t.prevActive = 1 ∧ t.activity = .tick 1 ∧
      t.voices[0]? = some { attackVoice with
        phase := 0xBB09976C, envLevel := 0x20000000, envCount := 2 })) = true := by decide +kernel

/-- V24, tick 14 with `nv = 16`: sample -249, and the drum ends. -/
theorem test_mix_drum_end :
    after (step (withVoice (inTick (.mix 13) 43) 0 { drumVoice with phase := 0x68000 })) (fun t =>
      decide (t.out[13]? = some (some (-249#16)) ∧
        t.voices[0]? = some { drumVoice with phase := 0x70000, playing := false })) = true := by decide +kernel

/-- The last tick of Attack with `INSTR[0]`: Hold at full scale for 2 ticks (R162, R165). -/
theorem test_envelope_attack_to_hold :
    advanceVoice Config.tc1 { attackVoice with envLevel := 0x30000000, envCount := 1 } =
      { attackVoice with phase := 0xBB09976C, envState := .hold, envLevel := 0x40000000, envInc := 0, envCount := 2 } := by
  decide +kernel

/-- The last tick of Delay with `INSTR[1]`, whose Attack, Hold and Decay are empty: Sustain (R162, R168). -/
theorem test_envelope_delay_to_sustain :
    advanceVoice Config.tc1 { delayVoice with envCount := 1 } =
      { delayVoice with phase := 0xBB09976C, envState := .sustain, envLevel := 0x40000000, envCount := 0 } := by
  decide +kernel

/-- Tick 44 of P1: the countdown reaches 0 and STEP is invoked. -/
theorem test_countdown : after (step (inTick (.tick 43) 1)) (fun t =>
    decide (t.waitTicks = 0 ∧ t.activity = .interp (.tick 43))) = true := by decide +kernel

/-- V54: voices 200, flags1 0x7F. -/
theorem test_start_header : after (step (host [0x50, 0x74, 0x06, 0x7F, 0x00, 0xC8, 0x00, 0x01] [.start 0x100 0]))
    (fun t => decide (t.startPtr = 0x106 ∧ t.cursor = 0x106 ∧ t.volPresent = false ∧ t.nv = 16)) = true := by
  decide +kernel

/-- V51: length 5, no header. -/
theorem test_start_no_header : after (step (host [0x50, 0x74, 0x05, 0x80, 0x00, 0x01] [.start 0x100 0]))
    (fun t => decide (t.startPtr = 0x100 ∧ t.volPresent = false ∧ t.nv = 16)) = true := by decide +kernel

/-- The assembler on the score of P1. -/
theorem test_assemble : assemble Config.tc1
    [.header 6 0x80 0 1, .noteOnVel 0 60 127, .wait 1, .stop] =
      some [0x50, 0x74, 0x06, 0x80, 0x00, 0x01, 0x90, 0x3C, 0x7F, 0x00, 0x01, 0xF0] := by decide +kernel

/-- A table word placed at reset runs as the first command. -/
theorem test_withFetchWord : after (step (State.reset.withFetchWord 24 0x7F3C90)) (fun t =>
    decide (t.cursor = 3 ∧ t.lfsr = 0xB8)) = true := by decide +kernel

/-! Witnesses: the hypotheses of each statement, met. -/

theorem witness_DecodeOfEncode : WellFormed true (.noteOnVel 15 255 255) = true ∧ WellFormed false (.wait 0) = true := by
  decide

theorem witness_EncodeOfDecode : decode true [0x93, 0x3C, 0x40, 0x80] = .ok (.noteOnVel 3 60 64, [0x80]) := by decide

/-- One first byte at each end of each of the nine rows. -/
theorem witness_FirstByteSelectsOneRow :
    (0x7F#8).toNat < 0x80 ∧ 0x80 ≤ (0x80#8).toNat ∧ (0x8F#8).toNat < 0x90 ∧ 0x90 ≤ (0x90#8).toNat ∧
    (0x9F#8).toNat < 0xA0 ∧ 0xA0 ≤ (0xA0#8).toNat ∧ (0xAF#8).toNat < 0xB0 ∧ 0xB0 ≤ (0xB0#8).toNat ∧
    (0xBF#8).toNat < 0xC0 ∧ 0xC0 ≤ (0xC0#8).toNat ∧ (0xCF#8).toNat < 0xD0 ∧ 0xD0 ≤ (0xD0#8).toNat ∧
    (0xDF#8).toNat < 0xE0 ∧ 0xE0 ≤ (0xE0#8).toNat ∧ (0xEF#8).toNat < 0xF0 ∧ 0xF0 ≤ (0xF0#8).toNat := by decide

theorem witness_WaitCountIsBigEndian : (0x7F#8).toNat < 128 := by decide

theorem witness_StepRunsTheDecodedCommand :
    (inStep true 16 [0x93, 0x3C, 0x40]).activity = .interp .start ∧
    decode (inStep true 16 [0x93, 0x3C, 0x40]).volPresent
      [(inStep true 16 [0x93, 0x3C, 0x40]).score.read 0x100, (inStep true 16 [0x93, 0x3C, 0x40]).score.read 0x101,
       (inStep true 16 [0x93, 0x3C, 0x40]).score.read 0x102] = .ok (.noteOnVel 3 60 64, []) := by decide +kernel

theorem witness_TableWordRunsNext :
    State.reset.score.wf = true ∧ decodeTableWord 24 0x403C93 = some (.noteOnVel 3 60 64) := by decide +kernel

/-- The last voice in range and the notes at both ends. -/
theorem witness_MelodicNoteOnBeginsTheNote :
    (15#4).toNat < State.reset.nv.toNat ∧ State.reset.voices[(15#4).toNat]? = some (Voice.reset Config.tc1) ∧
    (0#8).toNat < 128 ∧ (127#8).toNat < 128 := by decide +kernel

theorem witness_PercussionNoteOnBeginsTheDrum :
    (0#4).toNat < State.reset.nv.toNat ∧ State.reset.voices[(0#4).toNat]? = some (Voice.reset Config.tc1) ∧
    128 ≤ (128#8).toNat ∧ State.reset.cfg.params.percussionEn = true ∧
    State.reset.cfg.params.drumMap[(128#8).toNat - 128]? = some 0 ∧ (0 : Byte) ≠ 0xFF#8 ∧
    (State.reset.cfg.params.drum[(0#8).toNat]?).isSome := by decide +kernel

/-- A voice just out of range, an id with no drum, and the option off. -/
theorem witness_IgnoredNoteOnMovesOnlyTheCursor :
    (inStep true 2 []).nv.toNat ≤ (2#4).toNat ∧
    (128 ≤ (255#8).toNat ∧ State.reset.cfg.params.drumMap[(255#8).toNat - 128]? = some 0xFF#8) ∧
    (conf { tc1Params with percussionEn := false }).params.percussionEn = false := by decide +kernel

/-- Out of range and in range; a voice for each case of `NotedOff`. -/
theorem witness_NoteOffReleasesOrSilences :
    (inStep true 1 []).nv.toNat ≤ (1#4).toNat ∧
    ((0#4).toNat < (inStep true 1 []).nv.toNat ∧
      (withVoice (inStep true 1 []) 0 sustainVoice).voices[(0#4).toNat]? = some sustainVoice) ∧
    (Voice.reset Config.tc1).playing = false ∧ (drumVoice.playing = true ∧ drumVoice.perc = true) ∧
    (conf { tc1Params with envelopeEn := false }).params.envelopeEn = false ∧ releaseVoice.envState = .release ∧
    (sustainVoice.playing = true ∧ sustainVoice.perc = false ∧ Config.tc1.params.envelopeEn = true ∧
      sustainVoice.envState ≠ .release ∧ sustainVoice.envLevel.toNat ≤ 2 ^ 30) ∧
    (Config.tc1.params.instr.map (·.release)) = [8, 0] := by decide +kernel

/-- In range with ids at both ends of 0..127, and ids that are ignored. -/
theorem witness_InstrSelectsForTheNextNote :
    (inStep true 1 []).nv.toNat ≤ (1#4).toNat ∧ 128 ≤ (128#8).toNat ∧
    ((15#4).toNat < State.reset.nv.toNat ∧ State.reset.voices[(15#4).toNat]? = some (Voice.reset Config.tc1) ∧
      (127#8).toNat < 128 ∧ (0#8).toNat < 128) := by decide +kernel

theorem witness_RestartGoesToStartPtr :
    (inStep true 1 [0x00, 0x01]).activity = .interp .start ∧
    decode true [(inStep true 1 [0x00, 0x01]).score.read 0x100, (inStep true 1 [0x00, 0x01]).score.read 0x101,
      (inStep true 1 [0x00, 0x01]).score.read 0x102] = .ok (.wait 1, [0xF0]) := by decide +kernel

theorem witness_ReservedCommandsDoNothing :
    [0xA0, 0xBF, 0xD0, 0xDF].all (fun b =>
      decide ((inStep true 1 [b]).activity = .interp .start ∧
        (0xA0 ≤ ((inStep true 1 [b]).score.read (inStep true 1 [b]).cursor).toNat ∧
            ((inStep true 1 [b]).score.read (inStep true 1 [b]).cursor).toNat ≤ 0xBF ∨
          0xD0 ≤ ((inStep true 1 [b]).score.read (inStep true 1 [b]).cursor).toNat ∧
            ((inStep true 1 [b]).score.read (inStep true 1 [b]).cursor).toNat ≤ 0xDF))) = true := by decide +kernel

/-- A melodic note-on completes and moves the generator, in a state where no voice above `nv` plays. -/
theorem witness_ScoreCannotTouchControl :
    after (exec (.noteOnVel 0 60 127) (inStep true 1 [])) (fun t =>
      decide (t.lfsr ≠ (inStep true 1 []).lfsr ∧ t.scorePlaying = true)) = true ∧
    ∀ v ∈ (inStep true 1 []).voices.drop 1, v.playing = false := by decide +kernel

theorem witness_GeneratorHasFullPeriod : (0x01#8) ≠ 0 := by decide

theorem witness_InterpolationStaysBetween : (0#16).toInt < (1#16).toInt := by decide

/-- A melodic voice whose second sample wraps to index 0, and a percussion voice. -/
theorem witness_WaveformReadFollowsThePhase :
    (attackVoice.perc = false ∧
      (Config.tc1.params.wave[0]?).map (fun w => (w[255]?, w[(255 + 1) % 256]?)) = some (some 32512#16, some (-32768#16))) ∧
    (drumVoice.perc = true ∧
      (Config.tc1.params.drum[0]?).map (fun d => (d.data[0]?, d.data[1]?)) = some (some 0#16, some 8000#16)) := by
  decide +kernel

theorem witness_VelocityScaleIsMonotone : (0 : Byte).toNat ≤ (255 : Byte).toNat := by decide

theorem witness_WaitConversionIsMonotone :
    (1#15).toNat ≤ (32767#15).toNat ∧ 1000 ∣ (1000#15).toNat * Config.tc1.params.fsHz := by decide +kernel

/-- A voice in each timed state; the instrument of the first has only a Delay, that of the others no Delay. -/
theorem witness_EnvelopeSegmentLastsItsCount :
    ∀ v ∈ [delayVoice, attackVoice, holdVoice, decayVoice, releaseVoice],
      v.Ok Config.tc1 ∧ v.melodic = true ∧ v.envState.timed = true ∧
      (Config.tc1.params.instr[v.actRef.toNat]?).isSome := by decide +kernel

theorem witness_EnvelopeNeverGoesBack :
    releaseVoice.Ok Config.tc1 ∧ releaseVoice.melodic = true ∧
    (advanceVoice Config.tc1 releaseVoice).playing = false := by decide +kernel

theorem witness_PercussionPlaysOnce :
    drumVoice.percussive = true ∧ drumVoice.phase = 0 ∧ 1 ≤ drumVoice.endIdx.toNat := by decide

/-- Levels at both ends, on a melodic voice. -/
theorem witness_ContributionIsBounded :
    (attackVoice.envLevel.toNat ≤ 2 ^ 30 ∧ attackVoice.perc = false) ∧
    (0x40000000#32).toNat = 2 ^ 30 ∧ (0#32).toNat = 0 := by decide

theorem witness_TickMixesThenAdvances :
    (inTick (.mix 127) 5).activity = .mix 127 ∧ 127 < (inTick (.mix 127) 5).out.length ∧
    (inTick (.mix 127) 5).voices.length ≤ 16 ∧
    (inTick (.mix 127) 5).cfg.params.atten[(inTick (.mix 127) 5).nv.toNat]? = some 16 ∧
    (inTick (.mix 127) 5).cfg.params.dynamicAtten = false := by decide +kernel

theorem witness_SilenceIsZero :
    (inTick (.mix 0) 5).activity = .mix 0 ∧ 0 < (inTick (.mix 0) 5).out.length ∧
    ∀ v ∈ (inTick (.mix 0) 5).voices.take (inTick (.mix 0) 5).nv.toNat, v.playing = false := by decide +kernel

theorem witness_SilentVoicesAreNotRead :
    (inTick (.mix 0) 5).activity = .mix 0 ∧ (inTick (.mix 0) 5).voices[3]? = some (Voice.reset Config.tc1) ∧
    (Voice.reset Config.tc1).playing = false ∧ { attackVoice with playing := false }.playing = false := by
  decide +kernel

theorem witness_AttenuationNeverRises : (0 : Nat) ≤ 16 ∧ 16 ≤ Config.tc1.params.nvoices := by decide +kernel

theorem witness_DefaultTableNeverSaturates :
    (withVoice (inTick (.mix 0) 5) 0 attackVoice).Ok ∧ Config.tc1.params.dynamicAtten = false ∧
    Config.tc1.params.atten = defaultAtten Config.tc1.params.nvoices := by decide +kernel

/-- STEP in stage 1 of tick 5, at `bytes`. -/
def inTickStep (bytes : List Nat) : State := { inStep true 1 bytes with activity := .interp (.tick 5) }

/-- A countdown of 1, of 2, none, a score that does not play, and the places of the other two clauses. -/
theorem witness_CountdownInvokesStepAtZero :
    ((inTick (.tick 0) 1).activity = .tick 0 ∧ (inTick (.tick 0) 1).scorePlaying = true ∧
      (inTick (.tick 0) 1).waitTicks.toNat = 1) ∧
    (inTick (.tick 0) 2).waitTicks.toNat ≠ 1 ∧ (inTick (.tick 0) 0).waitTicks = 0 ∧
    ({ inTick (.tick 0) 0 with scorePlaying := false } : State).scorePlaying = false ∧
    ((inTickStep []).activity = .interp (.tick 5) ∧ (inTickStep []).scorePlaying = true) ∧
    (inTick (.mix 0) 0).activity = .mix 0 := by
  decide +kernel

/-- A command of each of the three clauses of STEP, the longest and the shortest WAIT among them. -/
theorem witness_CountdownInvokesStepAtZero_commands :
    (inTickStep [0x7F, 0xFF]).fetched = .wait 32767 ∧ (inTickStep [0x00, 0x00]).fetched = .wait 0 ∧
    (inTickStep [0xFF]).fetched = .stop 15 ∧ (inTickStep [0x80]).fetched = .noteOff 0 := by decide +kernel

theorem witness_AdvanceMovesOnlyPlayingVoices :
    (Voice.reset Config.tc1).playing = false ∧ attackVoice.melodic = true ∧ drumVoice.percussive = true := by decide

/-- A block of another length at a place inside a RENDER. -/
def inShortBlock (a : Activity) (w : Nat) : State :=
  { inTick a w with cfg := conf { tc1Params with block := 64 } }

/-- The same machine at two places of blocks of different length, before stage 1; both take a step. -/
theorem witness_TickIgnoresBlockAndIndex :
    SameMachine (inTick (.tick 3) 1) (inShortBlock (.tick 0) 1) ∧
    (inTick (.tick 3) 1).activity = .tick 3 ∧ (inShortBlock (.tick 0) 1).activity = .tick 0 ∧
    after (step (inTick (.tick 3) 1)) (fun _ => true) = true ∧
    after (step (inShortBlock (.tick 0) 1)) (fun _ => true) = true := by
  unfold SameMachine SameButBlock
  decide +kernel

/-- The same inside STEP and before the mix. -/
theorem witness_TickIgnoresBlockAndIndex_later :
    SameMachine (inTick (.interp (.tick 127)) 0) (inShortBlock (.interp (.tick 63)) 0) ∧
    SameMachine (inTick (.mix 127) 0) (inShortBlock (.mix 63) 0) ∧
    after (step (inTick (.interp (.tick 127)) 0)) (fun t => decide (t.activity = .mix 127)) = true ∧
    after (step (inShortBlock (.interp (.tick 63)) 0)) (fun t => decide (t.activity = .mix 63)) = true ∧
    after (step (inTick (.mix 127) 0)) (fun _ => true) = true ∧
    after (step (inShortBlock (.mix 63) 0)) (fun _ => true) = true := by
  unfold SameMachine SameButBlock
  decide +kernel

/-- A header, and none because the length is 5. -/
theorem witness_StartSetsUpTheScore :
    (host [] [.start 0x100 0]).activity = .idle ∧ (host [] [.start 0x100 0]).script = .start 0x100 0 :: [] ∧
    HeaderPresent Config.tc1 (mem 0x100 [0x50, 0x74, 0x06]) 0x100 ∧
    ¬ HeaderPresent Config.tc1 (mem 0x100 [0x50, 0x74, 0x05]) 0x100 := by
  unfold HeaderPresent
  decide +kernel

/-- The counts of the examples of R213, and a voice that does not exist under a configuration of 2. -/
theorem witness_VoiceCountIsClamped :
    (host [] [.start 0x100 4]).script = .start 0x100 4 :: [] ∧ (4 : Byte) ≠ 0 ∧ Config.tc1.params.nvoices = 16 ∧
    HeaderPresent Config.tc1 (mem 0x100 [0x50, 0x74, 0x06, 0x00, 0x00, 0x02]) 0x100 ∧
    (mem 0x100 [0x50, 0x74, 0x06, 0x00, 0x00, 0x02]).read 0x105 = 2 ∧
    (conf { tc1Params with dynamicAtten := true }).params.dynamicAtten = true ∧
    (conf { tc1Params with nvoices := 2, atten := [256, 256, 128] }).params.nvoices ≤ (2#4).toNat := by
  unfold HeaderPresent
  decide +kernel

theorem witness_StopTransactionIsIdempotent :
    (host [] [.stop, .stop]).activity = .idle ∧ (host [] [.stop, .stop]).script = .stop :: [.stop] ∧
    (host [] [.stop]).scorePlaying = false ∧
    ({ host [] [.stop] with scorePlaying := true } : State).scorePlaying = true := by decide +kernel

theorem witness_IsPlayingReturnsScorePlaying :
    (host [] [.isPlaying]).activity = .idle ∧ (host [] [.isPlaying]).script = .isPlaying :: [] := by decide +kernel

/-- A write of the padding byte over a listed byte, and the same at the top of the space. -/
theorem witness_HostWriteIsSeenByTheNextRead :
    ((host [0x80] [.writeScore 0x100 0xF0]).activity = .idle ∧
      (host [0x80] [.writeScore 0x100 0xF0]).script = .writeScore 0x100 0xF0 :: [] ∧
      (host [0x80] [.writeScore 0x100 0xF0]).score.wf = true) ∧
    (mem 0xFFFFFFFF [0x80]).wf = true ∧ (mem 0xFFFFFFFF [0x80]).write 0xFFFFFFFF 0xF0 = mem 0 [] := by
  decide +kernel

theorem witness_EqualReadsAreEqualMemories : (mem 0x100 [1, 2]).wf = true ∧ (mem 0x100 [1, 2]).pad = 0xF0 := by
  decide +kernel

theorem witness_ResetInputRestoresTheRegisters :
    (host [] [.reset]).activity = .idle ∧ (host [] [.reset]).script = .reset :: [] := by decide +kernel

/-- An idle block that plays a score, with a countdown of `w`, before a RENDER. -/
def idlePlaying (w : Nat) : State := { inTick .idle w with script := [.render] }

/-- No countdown. -/
theorem witness_RenderFillsTheBlock :
    (idlePlaying 0).Ok ∧ (idlePlaying 0).activity = .idle ∧ (idlePlaying 0).script = .render :: [] ∧
    (idlePlaying 0).waitTicks.toNat = 0 := by decide +kernel

/-- A countdown that just outlasts the block. -/
theorem witness_RenderFillsTheBlock_waiting :
    (idlePlaying 129).Ok ∧ (idlePlaying 129).cfg.params.block < (idlePlaying 129).waitTicks.toNat := by
  decide +kernel

/-- A wait that ends in the first tick it is asked in, and one that ends in the last tick of the block. -/
theorem witness_WaitExpiresInItsTick :
    ((inTick (.tick 127) 1).activity = .tick 127 ∧ (inTick (.tick 127) 1).scorePlaying = true ∧
      (inTick (.tick 127) 1).waitTicks.toNat = 1 ∧ 127 + 1 ≤ (inTick (.tick 127) 1).cfg.params.block) ∧
    ((inTick (.tick 0) 128).waitTicks.toNat = 128 ∧ 0 + 128 ≤ (inTick (.tick 0) 128).cfg.params.block) := by
  decide +kernel

theorem witness_ZeroWaitStallsTheInterpreter :
    (inTick (.tick 0) 0).scorePlaying = true ∧ (inTick (.tick 0) 0).waitTicks = 0 ∧
    (∀ c, (inTick (.tick 0) 0).activity ≠ .interp c) ∧
    HostOnlyRenders { inTick (.tick 0) 0 with script := [.render, .isPlaying] } := by
  refine ⟨by decide +kernel, by decide +kernel, ?_, ?_⟩
  · intro c h
    exact absurd h (by simp [inTick])
  · unfold HostOnlyRenders
    decide +kernel

/-- V65. -/
theorem witness_RestartAtStartPtrHangs :
    (inStep true 1 [0xE0]).activity = .interp .start ∧
    (inStep true 1 [0xE0]).cursor = (inStep true 1 [0xE0]).startPtr ∧
    (0xE0 ≤ ((inStep true 1 [0xE0]).score.read 0x100).toNat ∧
      ((inStep true 1 [0xE0]).score.read 0x100).toNat < 0xF0) ∧
    ((inStep true 1 [0xEF]).cursor = (inStep true 1 [0xEF]).startPtr ∧
      0xE0 ≤ ((inStep true 1 [0xEF]).score.read 0x100).toNat ∧
      ((inStep true 1 [0xEF]).score.read 0x100).toNat < 0xF0) := by decide +kernel

/-- A voice in Sustain. -/
theorem witness_SustainHoldsTheLevel : sustainVoice.melodic = true ∧ sustainVoice.envState = .sustain := by decide

/-- The last tick of a block whose last entry alone is not written, and it ends the block. -/
def lastMix : State := { inTick (.mix 127) 5 with out := List.replicate 127 (some 0) ++ [none] }
theorem witness_OutputIsWrittenInOrder :
    lastMix.Ok ∧ lastMix.outOk = true ∧
    after (step lastMix) (fun t => decide (t.activity = .idle)) = true ∧ lastMix.activity = .mix 127 := by
  decide +kernel

/-- A block of one tick, in which STEP runs and reads WAIT 1. -/
def renderWithStep : State :=
  { inStep true 1 [0x00, 0x01] with
    activity := .idle, script := [.render], waitTicks := 1, cfg := conf { tc1Params with block := 1 }, out := [none] }

/-- RENDER begins, stage 1 invokes STEP, WAIT, mix: idle again for the first time after four steps. -/
theorem witness_CompletedRenderFilledTheBlock :
    renderWithStep.Ok ∧ renderWithStep.activity = .idle ∧ renderWithStep.script = .render :: [] ∧ 0 < 4 ∧
    (∃ t, RunsTo 4 renderWithStep t ∧ t.activity = .idle) ∧
    ∀ j u, 0 < j → j < 4 → RunsTo j renderWithStep u → u.activity ≠ .idle := by
  have hrun : ∀ j < 5, 0 < j →
      after (Sys2Proof.core.run j renderWithStep) (fun t => decide (t.activity = .idle ↔ j = 4)) = true := by
    decide +kernel
  have hidle : ∀ j u, j < 5 → 0 < j → RunsTo j renderWithStep u → (u.activity = .idle ↔ j = 4) := by
    intro j u hj h0 hu
    have h := hrun j hj h0
    unfold RunsTo at hu
    rw [hu] at h
    exact of_decide_eq_true h
  refine ⟨by decide +kernel, by decide +kernel, by decide +kernel, by decide, ?_, ?_⟩
  · cases h : Sys2Proof.core.run 4 renderWithStep with
    | next t => exact ⟨t, h, (hidle 4 t (by decide) (by decide) h).2 rfl⟩
    | fault r => nomatch r
    | refused r =>
      have h' := hrun 4 (by decide) (by decide)
      rw [h] at h'
      exact absurd h' Bool.false_ne_true
  · intro j u h0 hj hu h
    have := (hidle j u (by omega) h0 hu).1 h
    omega

theorem witness_ResetIsGood : (mem 0x100 [1, 2]).wf = true := by decide +kernel

/-- A good state inside STEP with a note sounding, and it takes a step. -/
theorem witness_StepKeepsTheInvariants :
    (withVoice (inStep true 16 [0x80]) 0 attackVoice).Ok ∧
    after (step (withVoice (inStep true 16 [0x80]) 0 attackVoice)) (fun t => decide t.Ok) = true := by decide +kernel

theorem witness_OnlyStartWritesTheMode :
    after (step (host [0x50, 0x74, 0x06, 0x80, 0x00, 0x01] [.start 0x100 0])) (fun t =>
      decide (t.volPresent = true)) = true := by decide +kernel

theorem witness_IdleBlockHoldsItsState : State.reset.activity = .idle ∧ State.reset.script = [] := by decide +kernel

/-- The shortest DELAY, and one that is a multiple of the longest wait. -/
theorem witness_DelayLosesLessThanATickPerPart :
    32767 < 32768 ∧ delayParts 32768 = [32767, 1] ∧ 32767 < 65534 ∧ delayParts 65534 = [32767, 32767] := by
  decide +kernel

theorem witness_DelayAssemblesToItsWaits :
    32767 < 32768 ∧ (assembleStmt Config.tc1 true (.delay 32768)).isSome := by decide +kernel

end Sys2Proof.Tests
end

/-! SUPPORT. The state after reset (10_state.md R43): what each of its registers holds, for every configuration. -/

section
namespace Sys2Proof.Machine

section ResetState

variable (c : Config) (m : Memory) (ops : List HostOp)

/-- A default instrument is an id below NUM_INSTR, at most 256, so its register of 8 bits holds it (R26). -/
@[simp] theorem Voice.reset_instrSel_toNat :
    (Voice.reset c).instrSel.toNat = c.params.defaultInstrument := by
  obtain ⟨-, -, -, -, -, hinstr, -, -⟩ := ranges c
  exact Nat.mod_eq_of_lt (by omega)

/-- NVOICES is at most 16, so the voice count's register of 5 bits holds it (R38). -/
@[simp] theorem State.resetWith_nv_toNat : (State.resetWith c m ops).nv.toNat = c.params.nvoices := by
  obtain ⟨hvoices, -⟩ := ranges c
  exact Nat.mod_eq_of_lt (by omega)

@[simp] theorem State.resetWith_voices_length :
    (State.resetWith c m ops).voices.length = c.params.nvoices := List.length_replicate

theorem State.eq_reset_of_mem_resetWith_voices {v : Voice} (hv : v ∈ (State.resetWith c m ops).voices) :
    v = Voice.reset c := List.eq_of_mem_replicate hv

end ResetState

/-- Settles O43: every voice is the reset record, and the two registers whose reset value is a parameter are wide
enough for it; every other register is reset to a constant or to its parameter as it stands. -/
theorem resetValues : Obligations.ResetValues := by
  unfold Obligations.ResetValues
  intro c m ops
  refine ⟨State.resetWith_voices_length c m ops, ?voices, rfl, rfl, rfl, rfl, rfl,
    State.resetWith_nv_toNat c m ops, rfl, rfl⟩
  case voices =>
    intro v hv
    obtain rfl := State.eq_reset_of_mem_resetWith_voices c m ops hv
    exact ⟨rfl, rfl, rfl, rfl, rfl, Voice.reset_instrSel_toNat c, rfl, rfl, rfl, rfl, rfl, rfl⟩

end Sys2Proof.Machine
end

/-! SUPPORT. The decoder on the encoding of a command (30_encoding.md R80 to R86), and first bytes and wait counts
put back together from their fields: what the decoder reads from a list of bytes is said through the encoding the
list begins with. -/

section
namespace Sys2Proof

/-- The laws of `Laws.EncodeLength`, for whichever command it is. -/
theorem length_encode {vol : Bool} {i : Instr} (hwf : WellFormed vol i = true) :
    (encode i).length = cmdLength vol ((encode i).headD 0) := by
  cases i with
  | wait ms => exact Laws.EncodeLength.wait ms vol hwf
  | noteOff t => exact Laws.EncodeLength.noteOff t vol hwf
  | noteOn t n => exact Laws.EncodeLength.noteOn t n vol hwf
  | noteOnVel t n vel => exact Laws.EncodeLength.noteOnVel t n vel vol hwf
  | rsvdA x => exact Laws.EncodeLength.rsvdA x vol hwf
  | rsvdB x => exact Laws.EncodeLength.rsvdB x vol hwf
  | instr t id => exact Laws.EncodeLength.instr t id vol hwf
  | rsvdD x => exact Laws.EncodeLength.rsvdD x vol hwf
  | restart x => exact Laws.EncodeLength.restart x vol hwf
  | stop x => exact Laws.EncodeLength.stop x vol hwf

theorem encode_ne_nil (i : Instr) : encode i ≠ [] := by
  cases i <;> exact List.cons_ne_nil _ _

/-- A list of bytes that begins with as many bytes as its first byte asks for is split just after them
(30_encoding.md R82). -/
theorem decode_append {vol : Bool} {bytes : List Byte} (rest : List Byte) (hne : bytes ≠ [])
    (hlen : bytes.length = cmdLength vol (bytes.headD 0)) :
    decode vol (bytes ++ rest) = .ok (decodeFrom vol (fun k => (bytes ++ rest).getD k 0), rest) := by
  cases bytes with
  | nil => exact absurd rfl hne
  | cons b bs =>
    have hlen : cmdLength vol b = bs.length + 1 := hlen.symm
    have henough : ¬ (b :: (bs ++ rest)).length < cmdLength vol b := by
      simp [hlen]
    simp only [List.cons_append, decode, if_neg henough]
    simp [hlen]

/-- The bytes of a command, read under the mode it is well formed in, are that command (30_encoding.md R81 to
R86). -/
theorem decodeFrom_encode {vol : Bool} {i : Instr} (rest : List Byte) (hwf : WellFormed vol i = true) :
    decodeFrom vol (fun k => (encode i ++ rest).getD k 0) = i := by
  cases i with
  | wait ms => simpa [encode, decodeFrom] using waitCount_encode ms
  | noteOn t n =>
    have hvol : vol = false := by simpa [WellFormed] using hwf
    simp [encode, decodeFrom, hvol]
  | noteOnVel t n vel =>
    have hvol : vol = true := by simpa [WellFormed] using hwf
    simp [encode, decodeFrom, hvol]
  | noteOff | rsvdA | rsvdB | instr | rsvdD | restart | stop => simp [encode, decodeFrom]

theorem decode_encode_append {vol : Bool} {i : Instr} (rest : List Byte) (hwf : WellFormed vol i = true) :
    decode vol (encode i ++ rest) = .ok (i, rest) := by
  rw [decode_append rest (encode_ne_nil i) (length_encode hwf), decodeFrom_encode rest hwf]

theorem decode_of_encode_append_eq {vol : Bool} {i : Instr} {rest bytes : List Byte}
    (hbytes : encode i ++ rest = bytes) (hwf : WellFormed vol i = true) :
    decode vol bytes = .ok (i, rest) :=
  hbytes ▸ decode_encode_append rest hwf

/-- The sixteen first bytes of an opcode are that opcode over their low nibble (30_encoding.md R81). -/
theorem opcode_append_nibble (op : BitVec 4) {b : Byte} (hlo : op.toNat * 16 ≤ b.toNat)
    (hhi : b.toNat < op.toNat * 16 + 16) : op ++ BitVec.ofNat 4 b.toNat = b := by
  obtain ⟨-, hop, hnibble⟩ := firstByte_toNat b
  have hop : opOf b = op := BitVec.eq_of_toNat_eq (by omega)
  rw [← hop, ← hnibble, opOf_append_lowNibble]

/-- Two bytes whose class bit is 0 are the encoding of the WAIT of their count (30_encoding.md R81, R83). -/
theorem decode_wait_bytes (vol : Bool) {b0 : Byte} (b1 : Byte) (rest : List Byte) (hb : b0.toNat < 0x80) :
    decode vol (b0 :: b1 :: rest) = .ok (.wait (waitCount b0 b1), rest) := by
  have hclass : classBit b0 = false := (firstByte_toNat b0).1.2 hb
  obtain ⟨hhigh, hlow⟩ := encode_waitCount b0 b1 hclass
  exact decode_of_encode_append_eq (by simp only [encode, hhigh, hlow, List.cons_append, List.nil_append]) rfl

/-- The wait count is read big-endian (30_encoding.md R83). -/
theorem waitCount_toNat (b0 b1 : Byte) : (waitCount b0 b1).toNat = b0.toNat % 128 * 256 + b1.toNat := by
  simp [waitCount, append_toNat]

/-- Settles O3: in each row the first byte is its opcode over its low nibble, so the bytes begin with the encoding
of the row's command. -/
theorem firstByteSelectsOneRow : Obligations.FirstByteSelectsOneRow := by
  unfold Obligations.FirstByteSelectsOneRow
  intro vol b0 b1 b2 rest
  have hrow (op : BitVec 4) (hlo : op.toNat * 16 ≤ b0.toNat) (hhi : b0.toNat < op.toNat * 16 + 16)
      (tail : List Byte) : (op ++ BitVec.ofNat 4 b0.toNat) :: tail = b0 :: tail :=
    congrArg (· :: tail) (opcode_append_nibble op hlo hhi)
  refine ⟨?wait, ?noteOff, ?noteOn, ?rsvdA, ?rsvdB, ?instr, ?rsvdD, ?restart, ?stop⟩
  case wait => exact fun hb => ⟨waitCount b0 b1, decode_wait_bytes vol b1 (b2 :: rest) hb⟩
  case noteOff => exact fun hlo hhi => decode_of_encode_append_eq (hrow 0x8#4 hlo hhi _) rfl
  case noteOn =>
    intro hlo hhi
    cases vol with
    | false => exact decode_of_encode_append_eq (hrow 0x9#4 hlo hhi _) rfl
    | true => exact decode_of_encode_append_eq (hrow 0x9#4 hlo hhi _) rfl
  case rsvdA => exact fun hlo hhi => decode_of_encode_append_eq (hrow 0xA#4 hlo hhi _) rfl
  case rsvdB => exact fun hlo hhi => decode_of_encode_append_eq (hrow 0xB#4 hlo hhi _) rfl
  case instr => exact fun hlo hhi => decode_of_encode_append_eq (hrow 0xC#4 hlo hhi _) rfl
  case rsvdD => exact fun hlo hhi => decode_of_encode_append_eq (hrow 0xD#4 hlo hhi _) rfl
  case restart => exact fun hlo hhi => decode_of_encode_append_eq (hrow 0xE#4 hlo hhi _) rfl
  case stop => exact fun hlo => decode_of_encode_append_eq (hrow 0xF#4 hlo b0.isLt _) rfl

/-- Settles O4: the decoder's WAIT carries `waitCount`, whose fifteen bits are the seven of byte 0 over byte 1; the
two bytes of the example encode its command. -/
theorem waitCountIsBigEndian : Obligations.WaitCountIsBigEndian := by
  unfold Obligations.WaitCountIsBigEndian
  refine ⟨?count, ?twoThousand⟩
  case count =>
    intro vol b0 b1 rest hb
    exact ⟨waitCount b0 b1, decode_wait_bytes vol b1 rest hb, waitCount_toNat b0 b1,
      Nat.le_of_lt_succ (waitCount b0 b1).isLt⟩
  case twoThousand =>
    intro vol
    exact decode_of_encode_append_eq (i := .wait 2000#15) (by decide) rfl

end Sys2Proof
end


/-! SUPPORT. A step inside STEP, said through the decoder on the three bytes at the cursor
(40_score_interpreter.md R100, R101), and the reserved commands (R111). -/

section
namespace Sys2Proof.Machine

open Sys2Proof.Claims

/-- The bytes STEP can look at: no command is longer than three (30_encoding.md R82). -/
def State.bytesAtCursor (s : State) : List Byte :=
  [s.score.read s.cursor, s.score.read (s.cursor + 1), s.score.read (s.cursor + 2)]

theorem State.bytesAtCursor_getD (s : State) {k : Nat} (hk : k < 3) : s.bytesAtCursor.getD k 0 = s.byteAt k := by
  match k, hk with
  | 0, _ => exact congrArg s.score.read (BitVec.add_zero s.cursor).symm
  | 1, _ | 2, _ => rfl

/-- Three bytes hold any command, so the decoder never rejects them and what it reads is what STEP fetches. -/
theorem State.decode_bytesAtCursor (s : State) :
    decode s.volPresent s.bytesAtCursor =
      .ok (s.fetched, s.bytesAtCursor.drop (cmdLength s.volPresent (s.score.read s.cursor))) := by
  have henough : ¬ s.bytesAtCursor.length < cmdLength s.volPresent (s.score.read s.cursor) :=
    Nat.not_lt.2 (cmdLength_le s.volPresent (s.score.read s.cursor))
  have hsame : decodeFrom s.volPresent (fun k => s.bytesAtCursor.getD k 0) = s.fetched :=
    decodeFrom_congr (fun _ hk => s.bytesAtCursor_getD hk) (fun _ => rfl)
  rw [← hsame]
  exact if_neg henough

theorem State.fetched_of_decode {s : State} {i : Instr} {rest : List Byte}
    (h : decode s.volPresent s.bytesAtCursor = .ok (i, rest)) : s.fetched = i := by
  rw [s.decode_bytesAtCursor] at h
  exact congrArg Prod.fst (Except.ok.inj h)

/-- Inside STEP, a step runs the command the decoder reads at the cursor. -/
theorem step_of_decode {s : State} {c : Caller} {i : Instr} {rest : List Byte} (hc : s.activity = .interp c)
    (h : decode s.volPresent s.bytesAtCursor = .ok (i, rest)) : step s = exec i s := by
  rw [← State.fetched_of_decode h]
  simp only [step, hc]

theorem exec_rsvdA (x : BitVec 4) (s : State) : exec (.rsvdA x) s = .next (s.advance 1) := rfl
theorem exec_rsvdB (x : BitVec 4) (s : State) : exec (.rsvdB x) s = .next (s.advance 1) := rfl
theorem exec_rsvdD (x : BitVec 4) (s : State) : exec (.rsvdD x) s = .next (s.advance 1) := rfl

theorem State.advance_onlyCursor (s : State) (k : Nat) :
    OnlyCursor s (s.advance k) (s.cursor + BitVec.ofNat 32 k) := by
  simp [OnlyCursor, SameControl]

/-- The first bytes 0xA0 to 0xBF and 0xD0 to 0xDF are those of the reserved commands (30_encoding.md R86, R87). -/
theorem step_of_reserved_byte {s : State} {c : Caller} (hc : s.activity = .interp c)
    (hb : 0xA0 ≤ (s.score.read s.cursor).toNat ∧ (s.score.read s.cursor).toNat ≤ 0xBF ∨
      0xD0 ≤ (s.score.read s.cursor).toNat ∧ (s.score.read s.cursor).toNat ≤ 0xDF) :
    step s = .next (s.advance 1) := by
  obtain ⟨-, -, -, hrsvdA, hrsvdB, -, hrsvdD, -, -⟩ := firstByteSelectsOneRow s.volPresent
    (s.score.read s.cursor) (s.score.read (s.cursor + 1)) (s.score.read (s.cursor + 2)) []
  obtain ⟨hlo, hhi⟩ | ⟨hlo, hhi⟩ := hb
  · by_cases hA : (s.score.read s.cursor).toNat < 0xB0
    · exact (step_of_decode hc (hrsvdA hlo hA)).trans (exec_rsvdA _ s)
    · exact (step_of_decode hc (hrsvdB (Nat.not_lt.1 hA) (Nat.lt_succ_of_le hhi))).trans (exec_rsvdB _ s)
  · exact (step_of_decode hc (hrsvdD hlo (Nat.lt_succ_of_le hhi))).trans (exec_rsvdD _ s)

/-- Settles O16: each reserved command, and so a step at each of its first bytes, is the cursor's advance over byte
0 and nothing else. -/
theorem reservedCommandsDoNothing : Obligations.ReservedCommandsDoNothing := by
  unfold Obligations.ReservedCommandsDoNothing
  refine ⟨?commands, ?firstBytes⟩
  case commands =>
    intro x s
    have hmoved : OnlyCursor s (s.advance 1) (s.cursor + 1) := s.advance_onlyCursor 1
    exact ⟨⟨_, exec_rsvdA x s, hmoved⟩, ⟨_, exec_rsvdB x s, hmoved⟩, ⟨_, exec_rsvdD x s, hmoved⟩⟩
  case firstBytes =>
    exact fun s c hc hb => ⟨_, step_of_reserved_byte hc hb, s.advance_onlyCursor 1⟩

end Sys2Proof.Machine
end

/-! SUPPORT. Stages 2 and 3 of a tick (44_render_step.md R196, R199, R202): the mixer's values as plain arithmetic,
and which voices it reads (43_mixer.md R180 to R189). -/

section
namespace Sys2Proof.Machine

open Sys2Proof.Claims

theorem step_of_mix {s : State} {i : Nat} (h : s.activity = .mix i) : step s = .next (s.finishTick i) := by
  simp only [step, h]

/-! The mixer's values. -/

theorem envMult_eq (v : Voice) : envMult v = ((v.envLevel.toNat / 2 ^ 14 : Nat) : Int) :=
  (Int.natCast_ediv _ _).symm

theorem contrib_eq_voicePart (c : Config) : contrib c = voicePart c := by
  funext v
  unfold contrib envScaled voicePart
  rw [envMult_eq]
  cases v.perc with
  | false => rfl
  | true => rfl

theorem gain_of_getElem {c : Config} {k g : Nat} (h : c.params.atten[k]? = some g) : gain c k = g := by
  simp only [gain, h, Option.getD_some]

theorem State.acc_eq_sum_mixed (s : State) : s.acc = (s.mixed.map (voicePart s.cfg)).sum := by
  rw [State.acc, contrib_eq_voicePart]

/-- The sample is the attenuated sum, shifted and saturated (43_mixer.md R185, R188). -/
theorem State.mixSample_toInt {s : State} {g : Nat} (h : s.cfg.params.atten[s.attenIndex]? = some g) :
    s.mixSample.toInt = max (-32768) (min 32767 ((s.mixed.map (voicePart s.cfg)).sum * g / 2 ^ 8)) := by
  rw [State.mixSample, toSample_sat16, gain_of_getElem h, State.acc_eq_sum_mixed]
  rfl

theorem State.mixed_length_le (s : State) : s.mixed.length ≤ s.voices.length :=
  (List.length_filter_le _ _).trans (List.length_take_le' _ _)

/-- At most sixteen voices are counted, so the five bits of `prev_active` hold their number (43_mixer.md R187). -/
theorem State.activeCount_toNat {s : State} (h : s.voices.length ≤ 16) : s.activeCount.toNat = s.mixed.length := by
  have hcount : s.mixed.length ≤ 16 := s.mixed_length_le.trans h
  exact Nat.mod_eq_of_lt (by omega)

/-- Settles O29: the step is `finishTick`, whose sample and count are those of the voices mixed, and whose other
registers its own equations give. -/
theorem tickMixesThenAdvances : Obligations.TickMixesThenAdvances := by
  unfold Obligations.TickMixesThenAdvances
  intro s i g hmix _ hvoices hgain
  refine ⟨s.finishTick i, s.mixSample, step_of_mix hmix, s.finishTick_out i, State.mixSample_toInt hgain,
    ?count, s.finishTick_voices i, s.finishTick_activity i, ?frame⟩
  case count =>
    rw [State.finishTick_prevActive]
    exact State.activeCount_toNat hvoices
  case frame => simp

/-! The voices the mixer reads (43_mixer.md R183). -/

/-- A sum over the voices that play is one over all voices in which the others count as 0. -/
theorem sum_map_playing (f : Voice → Int) (vs : List Voice) :
    ((vs.filter (·.playing)).map f).sum = (vs.map fun v => if v.playing then f v else 0).sum := by
  simp [List.sum_map_ite]

/-- A silent record in place of a silent one leaves the same voices playing, in the same order. -/
theorem filter_playing_set {vs : List Voice} {u : Nat} {w : Voice} (hold : ∀ v ∈ vs[u]?, v.playing = false)
    (hnew : w.playing = false) : (vs.set u w).filter (·.playing) = vs.filter (·.playing) := by
  induction vs generalizing u with
  | nil => rfl
  | cons x xs ih =>
    cases u with
    | zero =>
      have hx : x.playing = false := hold x rfl
      simp [hx, hnew]
    | succ u =>
      simp only [List.set_cons_succ, List.filter_cons]
      rw [ih fun v hv => hold v hv]

theorem State.mixed_setVoice_silent {s : State} {u : Nat} {v w : Voice} (hv : s.voices[u]? = some v)
    (hold : v.playing = false) (hnew : w.playing = false) : (s.setVoice u w).mixed = s.mixed := by
  simp only [State.mixed, State.setVoice_voices, State.setVoice_nv, List.take_set]
  refine filter_playing_set (fun x hx => ?_) hnew
  rw [List.getElem?_take, Option.mem_def, Option.ite_none_right_eq_some] at hx
  obtain ⟨-, hx⟩ := hx
  obtain rfl : v = x := Option.some.inj (hv.symm.trans hx)
  exact hold

/-- The sample and the count look at the voice records through the voices mixed alone. -/
theorem State.mix_setVoice_of_mixed_eq {s : State} {u : Nat} {w : Voice} (h : (s.setVoice u w).mixed = s.mixed) :
    (s.setVoice u w).mixSample = s.mixSample ∧ (s.setVoice u w).activeCount = s.activeCount := by
  have hacc : (s.setVoice u w).acc = s.acc := by simp only [State.acc, h, State.setVoice_cfg]
  constructor
  · rw [State.mixSample, hacc]
    rfl
  · rw [State.activeCount, h, State.activeCount]

/-- Settles O31: the mixer sums the voices that play, and a silent record in place of a silent one leaves those as
they were. -/
theorem silentVoicesAreNotRead : Obligations.SilentVoicesAreNotRead := by
  unfold Obligations.SilentVoicesAreNotRead
  refine ⟨?zeroSummand, ?anyRecord⟩
  case zeroSummand =>
    intro s
    rw [State.acc_eq_sum_mixed]
    exact sum_map_playing (voicePart s.cfg) _
  case anyRecord =>
    intro s i u v w hmix hv hold hnew
    obtain ⟨hsample, hcount⟩ := State.mix_setVoice_of_mixed_eq (State.mixed_setVoice_silent hv hold hnew)
    refine ⟨s.finishTick i, (s.setVoice u w).finishTick i, step_of_mix hmix, step_of_mix hmix, ?out, ?prevActive⟩
    case out => rw [State.finishTick_out, State.finishTick_out, State.setVoice_out, hsample]
    case prevActive => rw [State.finishTick_prevActive, State.finishTick_prevActive, hcount]

end Sys2Proof.Machine
end

/-! SUPPORT. Stage 1 of a tick (44_render_step.md R197, R202): what the countdown writes, and which command ends
STEP and which goes on in it (40_score_interpreter.md R100, R104, R110). -/

section
namespace Sys2Proof.Machine

open Sys2Proof.Claims

theorem step_of_tick {s : State} {i : Nat} (h : s.activity = .tick i) : step s = .next (s.countdown i) := by
  simp only [step, h]

theorem step_of_interp {s : State} {c : Caller} (h : s.activity = .interp c) : step s = exec s.fetched s := by
  simp only [step, h]

/-! The countdown. -/

/-- A count that is not 0 goes down by one as a number, and is 0 then exactly when it was 1. -/
theorem toNat_pred {w : Word} (h : w ≠ 0) : (w - 1).toNat + 1 = w.toNat ∧ (w - 1 = 0 ↔ w.toNat = 1) := by
  bv_omega

theorem State.countdown_frame (s : State) (i : Nat) :
    (s.countdown i).voices = s.voices ∧ (s.countdown i).cursor = s.cursor ∧ (s.countdown i).lfsr = s.lfsr ∧
      (s.countdown i).scorePlaying = s.scorePlaying ∧ SameControl s (s.countdown i) := by
  obtain ⟨-, -, -, h⟩ | ⟨-, -, -, h⟩ | ⟨-, h⟩ := s.countdown_cases i <;> simp [h, SameControl]

theorem State.not_inactive {s : State} (hplay : s.scorePlaying = true) (hwait : s.waitTicks ≠ 0) :
    ¬ (s.scorePlaying = false ∨ s.waitTicks = 0) :=
  not_or.2 ⟨ne_false_of_eq_true hplay, hwait⟩

/-- The test of the count is made after the decrement (44_render_step.md R197). -/
theorem State.countdown_active {s : State} (i : Nat) (hplay : s.scorePlaying = true) (hwait : s.waitTicks ≠ 0) :
    (s.countdown i).waitTicks.toNat + 1 = s.waitTicks.toNat ∧
      (s.waitTicks.toNat = 1 → (s.countdown i).activity = .interp (.tick i)) ∧
      (s.waitTicks.toNat ≠ 1 → (s.countdown i).activity = .mix i) := by
  obtain ⟨hpred, hzero⟩ := toNat_pred hwait
  obtain ⟨-, -, hexpired, h⟩ | ⟨-, -, hleft, h⟩ | ⟨hoff, -⟩ := s.countdown_cases i
  · rw [h, ← hpred, hexpired]
    exact ⟨rfl, fun _ => rfl, fun hne => absurd rfl hne⟩
  · rw [h]
    exact ⟨hpred, fun hone => absurd (hzero.2 hone) hleft, fun _ => rfl⟩
  · exact absurd hoff (State.not_inactive hplay hwait)

theorem State.countdown_inactive {s : State} (i : Nat) (hoff : s.scorePlaying = false ∨ s.waitTicks = 0) :
    s.countdown i = { s with activity := .mix i } := by
  obtain ⟨hplay, hwait, -⟩ | ⟨hplay, hwait, -⟩ | ⟨-, h⟩ := s.countdown_cases i
  · exact absurd hoff (State.not_inactive hplay hwait)
  · exact absurd hoff (State.not_inactive hplay hwait)
  · exact h

/-! The commands, by whether STEP returns after them. -/

/-- A wait of 15 bits at the highest sample rate still fits the register, so its ticks are the exact quotient
(40_score_interpreter.md R104). -/
theorem waitToTicks_toNat (c : Config) (ms : BitVec 15) :
    (waitToTicks c ms).toNat = ms.toNat * c.params.fsHz / 1000 := by
  obtain ⟨-, ⟨-, hrate⟩, -⟩ := ranges c
  have hprod : ms.toNat * c.params.fsHz ≤ 2 ^ 15 * 1048575 := Nat.mul_le_mul ms.isLt.le hrate
  exact Nat.mod_eq_of_lt (by simp only [floorDiv]; omega)

/-- `t` stands at the same place of the tick as `s`, with the same countdown and the same score playing. -/
def SameProgress (s t : State) : Prop :=
  t.activity = s.activity ∧ t.scorePlaying = s.scorePlaying ∧ t.waitTicks = s.waitTicks

theorem SameProgress.refl (s : State) : SameProgress s s := ⟨rfl, rfl, rfl⟩

theorem SameProgress.of_advance {s t : State} {k : Nat} (h : SameProgress (s.advance k) t) : SameProgress s t := h

theorem State.noteOn_sameProgress (s : State) (t : Nat) (n vel : Byte) : SameProgress s (s.noteOn t n vel) := by
  obtain ⟨-, h⟩ | ⟨v, -, ⟨-, -, h⟩ | ⟨d, -, -, h⟩ | ⟨-, h⟩⟩ := s.noteOn_cases t n vel <;>
    simp [h, SameProgress]

theorem State.noteOff_sameProgress (s : State) (t : Nat) : SameProgress s (s.noteOff t) := by
  obtain ⟨-, h⟩ | ⟨v, -, h⟩ := s.noteOff_cases t <;> simp [h, SameProgress]

theorem State.selectInstrument_sameProgress (s : State) (t : Nat) (k : Byte) :
    SameProgress s (s.selectInstrument t k) := by
  obtain ⟨-, h⟩ | ⟨v, -, h⟩ := s.selectInstrument_cases t k <;> simp [h, SameProgress]

/-- Whether or not a condition lets an operation act, the progress is kept if the operation keeps it. -/
theorem SameProgress.ite {s t : State} (b : Bool) (h : SameProgress s t) : SameProgress s (if b then t else s) := by
  cases b with
  | false => exact .refl s
  | true => exact h

/-- Every command but WAIT and STOP goes on in STEP (40_score_interpreter.md R100). -/
theorem exec_sameProgress {i : Instr} (s : State) (hwait : ∀ ms, i ≠ .wait ms) (hstop : ∀ x, i ≠ .stop x) :
    ∃ t, exec i s = .next t ∧ SameProgress s t := by
  cases i with
  | wait ms => exact absurd rfl (hwait ms)
  | stop x => exact absurd rfl (hstop x)
  | noteOff t => exact ⟨_, rfl, .of_advance (.ite _ (State.noteOff_sameProgress _ _))⟩
  | noteOn t n => exact ⟨_, rfl, .of_advance (.ite _ (State.noteOn_sameProgress _ _ _ _))⟩
  | noteOnVel t n vel => exact ⟨_, rfl, .of_advance (.ite _ (State.noteOn_sameProgress _ _ _ _))⟩
  | instr t id =>
    refine ⟨_, rfl, .of_advance (.ite _ ?_)⟩
    cases patchOf s.cfg id with
    | none => exact .refl _
    | some k => exact State.selectInstrument_sameProgress _ _ _
  | rsvdA | rsvdB | rsvdD | restart => exact ⟨_, rfl, rfl, rfl, rfl⟩

theorem exec_wait_of_tick {s : State} {i : Nat} (ms : BitVec 15) (hc : s.activity = .interp (.tick i)) :
    ∃ t, exec (.wait ms) s = .next t ∧ t.activity = .mix i ∧ t.scorePlaying = s.scorePlaying ∧
      t.waitTicks.toNat = ms.toNat * s.cfg.params.fsHz / 1000 :=
  ⟨_, rfl, State.returnFromStep_tick _ i hc, rfl, waitToTicks_toNat s.cfg ms⟩

theorem exec_stop_of_tick {s : State} {i : Nat} (x : BitVec 4) (hc : s.activity = .interp (.tick i)) :
    ∃ t, exec (.stop x) s = .next t ∧ t.activity = .mix i ∧ t.scorePlaying = false ∧ t.waitTicks = 0 :=
  ⟨_, rfl, State.returnFromStep_tick _ i hc, rfl, rfl⟩

/-- Settles O34: a step inside STEP by the command at the cursor, the step of a mix by the equations of `finishTick`,
and stage 1 by whether a countdown is active. -/
theorem countdownInvokesStepAtZero : Obligations.CountdownInvokesStepAtZero := by
  unfold Obligations.CountdownInvokesStepAtZero
  refine ⟨?interp, ?mix, ?tick⟩
  case interp =>
    intro s i hc hplay
    rw [step_of_interp hc]
    by_cases hwait : ∃ ms, s.fetched = .wait ms
    · obtain ⟨ms, hms⟩ := hwait
      obtain ⟨t, hexec, hact, hsp, hticks⟩ := exec_wait_of_tick ms hc
      simp [hms, hexec, hact, hsp, hplay, hticks]
    by_cases hstop : ∃ x, s.fetched = .stop x
    · obtain ⟨x, hx⟩ := hstop
      obtain ⟨t, hexec, hact, hsp, hticks⟩ := exec_stop_of_tick x hc
      simp [hx, hexec, hact, hsp, hticks]
    · obtain ⟨t, hexec, hact, hsp, hticks⟩ :=
        exec_sameProgress s (not_exists.1 hwait) (not_exists.1 hstop)
      exact ⟨t, hexec, fun ms hms => absurd ⟨ms, hms⟩ hwait, fun x hx => absurd ⟨x, hx⟩ hstop,
        fun _ _ => ⟨hact.trans hc, hsp.trans hplay, hticks⟩⟩
  case mix =>
    intro s t i hmix hstep
    rw [step_of_mix hmix] at hstep
    obtain rfl : s.finishTick i = t := Host.Outcome.next.inj hstep
    exact ⟨s.finishTick_waitTicks i, s.finishTick_cursor i, s.finishTick_activity i⟩
  case tick =>
    intro s i htick
    obtain ⟨hvoices, hcursor, hlfsr, hsp, hcontrol⟩ := s.countdown_frame i
    refine ⟨s.countdown i, step_of_tick htick, hvoices, hcursor, hlfsr, hsp, hcontrol,
      State.countdown_active i, ?inactive⟩
    case inactive =>
      intro hoff
      rw [State.countdown_inactive i hoff]
      exact ⟨rfl, rfl⟩

end Sys2Proof.Machine
end

/-! SUPPORT. What START takes from the header and from its override (30_encoding.md R90, R92; 45_control_surface.md
R210, R213), and how an idle block takes an entry of the host's script. -/

section
namespace Sys2Proof.Machine

open Sys2Proof.Claims

theorem step_of_script {s : State} {op : HostOp} {rest : List HostOp} (hidle : s.activity = .idle)
    (hscript : s.script = op :: rest) : step s = .next (({ s with script := rest } : State).host op) := by
  obtain ⟨hnil, -⟩ | ⟨op', rest', hcons, hstep⟩ := idleStep_cases hidle
  · exact absurd (hscript.symm.trans hnil) (List.cons_ne_nil op rest)
  · obtain ⟨rfl, rfl⟩ := List.cons.inj (hscript.symm.trans hcons)
    exact hstep

section HeaderAndOverride

variable {c : Config} {m : Memory} {base : Word}

theorem headerAt_of_present (h : HeaderPresent c m base) :
    headerAt c m base = some {
      volPresent := (m.read (base + 3)).getLsbD 7
      startPtr := base + (m.read (base + 2)).setWidth 32
      voices := m.read (base + 5) } := by
  obtain ⟨hsig0, hsig1, hlen⟩ := h
  simp only [headerAt, if_pos (And.intro hsig0 hsig1), if_pos hlen, BitVec.ofNat_toNat]

theorem headerAt_of_absent (h : ¬ HeaderPresent c m base) : headerAt c m base = none := by
  by_cases hsig : m.read base = c.params.hdrSig0 ∧ m.read (base + 1) = c.params.hdrSig1
  · obtain ⟨hsig0, hsig1⟩ := hsig
    have hshort : ¬ 6 ≤ (m.read (base + 2)).toNat := fun hlen => h ⟨hsig0, hsig1, hlen⟩
    rw [headerAt, if_pos ⟨hsig0, hsig1⟩]
    exact if_neg hshort
  · rw [headerAt, if_neg hsig]

variable (c)

theorem rawVoices_some (override : Byte) (hdr : Header) :
    rawVoices c override (some hdr) = if override = 0 then hdr.voices.toNat else override.toNat := ite_not _ _ _

theorem rawVoices_none (override : Byte) :
    rawVoices c override none = if override = 0 then c.params.nvoices else override.toNat := ite_not _ _ _

theorem rawVoices_of_override {override : Byte} (h : override ≠ 0) (hdr : Option Header) :
    rawVoices c override hdr = override.toNat := if_pos h

/-- A clamped count is at most 16, so the register of 5 bits holds it (10_state.md R38). -/
theorem effectiveVoices_toNat (override : Byte) (hdr : Option Header) :
    (effectiveVoices c override hdr).toNat = max 1 (min (rawVoices c override hdr) c.params.nvoices) := by
  obtain ⟨⟨hone, hsixteen⟩, -⟩ := ranges c
  rw [effectiveVoices, clampNat_eq_max _ hone]
  exact Nat.mod_eq_of_lt (by omega)

theorem effectiveVoices_range (override : Byte) (hdr : Option Header) :
    1 ≤ (effectiveVoices c override hdr).toNat ∧ (effectiveVoices c override hdr).toNat ≤ c.params.nvoices := by
  obtain ⟨⟨hone, -⟩, -⟩ := ranges c
  rw [effectiveVoices_toNat]
  omega

end HeaderAndOverride

/-! The registers START sets from the header (45_control_surface.md R210, R212). -/

section StartScore

variable {s : State} {base : Word} (override : Byte)

theorem State.startScore_of_header (h : HeaderPresent s.cfg s.score base) :
    (s.startScore base override).volPresent = (s.score.read (base + 3)).getLsbD 7 ∧
    (s.startScore base override).startPtr = base + (s.score.read (base + 2)).setWidth 32 ∧
    (s.startScore base override).nv.toNat =
      max 1 (min (if override = 0 then (s.score.read (base + 5)).toNat else override.toNat)
        s.cfg.params.nvoices) := by
  simp only [State.startScore, headerAt_of_present h, effectiveVoices_toNat, rawVoices_some]
  exact ⟨rfl, rfl, trivial⟩

theorem State.startScore_of_noHeader (h : ¬ HeaderPresent s.cfg s.score base) :
    (s.startScore base override).volPresent = s.cfg.params.defaultVolumePresent ∧
    (s.startScore base override).startPtr = base ∧
    (s.startScore base override).nv.toNat =
      max 1 (min (if override = 0 then s.cfg.params.nvoices else override.toNat) s.cfg.params.nvoices) := by
  simp only [State.startScore, headerAt_of_absent h, effectiveVoices_toNat, rawVoices_none]
  exact ⟨rfl, rfl, trivial⟩

theorem State.startScore_nv_range (s : State) (base : Word) :
    1 ≤ (s.startScore base override).nv.toNat ∧
      (s.startScore base override).nv.toNat ≤ s.cfg.params.nvoices :=
  effectiveVoices_range s.cfg override _

theorem State.startScore_nv_of_override (s : State) (base : Word) {override : Byte} (h : override ≠ 0) :
    (s.startScore base override).nv.toNat = max 1 (min override.toNat s.cfg.params.nvoices) := by
  rw [← rawVoices_of_override s.cfg h (headerAt s.cfg s.score base)]
  exact effectiveVoices_toNat s.cfg override _

variable {override}

theorem State.startScore_nv_of_headerCount (h0 : override = 0) (h : HeaderPresent s.cfg s.score base) :
    (s.startScore base override).nv.toNat =
      max 1 (min (s.score.read (base + 5)).toNat s.cfg.params.nvoices) := by
  obtain ⟨-, -, hnv⟩ := State.startScore_of_header override h
  rwa [if_pos h0] at hnv

theorem State.startScore_nv_of_neither (h0 : override = 0) (h : ¬ HeaderPresent s.cfg s.score base) :
    (s.startScore base override).nv.toNat = s.cfg.params.nvoices := by
  obtain ⟨-, -, hnv⟩ := State.startScore_of_noHeader override h
  obtain ⟨⟨hone, -⟩, -⟩ := ranges s.cfg
  rw [hnv, if_pos h0, min_self, max_eq_right hone]

end StartScore

/-- Settles O37: the step is `startScore` on the rest of the script, whose mode, start pointer and voice count are
those of the header or of the defaults, and whose voices are copies of the reset record. -/
theorem startSetsUpTheScore : Obligations.StartSetsUpTheScore := by
  unfold Obligations.StartSetsUpTheScore
  intro s base override rest hidle hscript
  refine ⟨_, step_of_script hidle hscript, rfl, State.startScore_of_header override,
    State.startScore_of_noHeader override, rfl, rfl, rfl, rfl, rfl, List.length_replicate, ?voices,
    rfl, rfl, rfl, rfl, fun _ => rfl⟩
  case voices =>
    intro v hv
    obtain rfl : v = Voice.reset s.cfg := List.eq_of_mem_replicate hv
    exact ⟨rfl, rfl, rfl, rfl, rfl, Voice.reset_instrSel_toNat s.cfg, rfl, rfl, rfl, rfl, rfl, rfl⟩

end Sys2Proof.Machine
end

/-! SUPPORT. Commands for a voice at or above the configured count, which only move the cursor
(40_score_interpreter.md R103), and what the voice count selects (45_control_surface.md R213). -/

section
namespace Sys2Proof.Machine

open Sys2Proof.Claims

section OutOfRange

variable {s : State} {u : BitVec 4}

theorem State.inRange_eq_false (h : s.nv.toNat ≤ u.toNat) : s.inRange u = false :=
  decide_eq_false (Nat.not_lt.2 h)

theorem exec_noteOn_outOfRange (h : s.nv.toNat ≤ u.toNat) (n : Byte) :
    exec (.noteOn u n) s = .next (s.advance 2) := by
  simp [exec, execNoteOn, State.inRange_eq_false h]

theorem exec_noteOnVel_outOfRange (h : s.nv.toNat ≤ u.toNat) (n vel : Byte) :
    exec (.noteOnVel u n vel) s = .next (s.advance 3) := by
  simp [exec, execNoteOnVel, State.inRange_eq_false h]

theorem exec_noteOff_outOfRange (h : s.nv.toNat ≤ u.toNat) : exec (.noteOff u) s = .next (s.advance 1) := by
  simp [exec, execNoteOff, State.inRange_eq_false h]

theorem exec_instr_outOfRange (h : s.nv.toNat ≤ u.toNat) (id : Byte) :
    exec (.instr u id) s = .next (s.advance 2) := by
  simp [exec, execInstr, State.inRange_eq_false h]

end OutOfRange

/-- The static attenuation index is the voice count, which is how `nv` selects the factor (43_mixer.md R186). -/
theorem State.attenIndex_static {s : State} (h : s.cfg.params.dynamicAtten = false) :
    s.attenIndex = s.nv.toNat := by
  simp [State.attenIndex, h]

theorem State.attenIndex_dynamic {s : State} (h : s.cfg.params.dynamicAtten = true) :
    s.attenIndex = s.prevActive.toNat := by
  simp [State.attenIndex, h]

/-- Settles O38: the count is the clamp of the raw count, whose priority is that of the override, the header and
NVOICES, so no voice at or above NVOICES is in range; START clears `prev_active`, the dynamic index; the examples are
the clamp at NVOICES = 16. -/
theorem voiceCountIsClamped : Obligations.VoiceCountIsClamped := by
  unfold Obligations.VoiceCountIsClamped
  intro s base override rest hidle hscript
  refine ⟨_, step_of_script hidle hscript, State.startScore_nv_range override _ base,
    State.startScore_nv_of_override _ base, State.startScore_nv_of_headerCount, State.startScore_nv_of_neither,
    fun hstat => State.attenIndex_static hstat, fun hdyn => State.attenIndex_dynamic hdyn, ?ignored, ?examples⟩
  case ignored =>
    intro u n vel hu
    obtain ⟨-, hcount⟩ := State.startScore_nv_range override { s with script := rest } base
    have hout := hcount.trans hu
    exact ⟨⟨_, exec_noteOn_outOfRange hout n, State.advance_onlyCursor _ 2⟩,
      ⟨_, exec_noteOnVel_outOfRange hout n vel, State.advance_onlyCursor _ 3⟩,
      ⟨_, exec_noteOff_outOfRange hout, State.advance_onlyCursor _ 1⟩,
      ⟨_, exec_instr_outOfRange hout n, State.advance_onlyCursor _ 2⟩⟩
  case examples =>
    intro h16
    exact ⟨fun h0 hp hv => (State.startScore_nv_of_headerCount h0 hp).trans (by rw [hv, h16]; rfl),
      fun h4 => (State.startScore_nv_of_override _ base (by simp [h4])).trans (by simp [h4, h16]),
      fun h0 hp => (State.startScore_nv_of_neither h0 hp).trans h16,
      fun h200 => (State.startScore_nv_of_override _ base (by simp [h200])).trans (by simp [h200, h16]),
      fun h0 hp hv => (State.startScore_nv_of_headerCount h0 hp).trans (by rw [hv, h16]; rfl)⟩

end Sys2Proof.Machine
end

/-! SUPPORT. Note-off as R135 says it (41_voice_oscillator.md R135; 42_envelope.md R171 to R173), and STOP() against
the STOP command (40_score_interpreter.md R110, 45_control_surface.md R217). -/

section
namespace Sys2Proof.Machine

open Sys2Proof.Claims

/-- A release of duration 0 goes to Idle at once (42_envelope.md R171). -/
theorem envEnterRelease_of_zero {i : Instrument} (v : Voice) (h : i.release = 0) :
    envEnterRelease i v = envToIdle v := if_pos h

/-- A release keeps the level and loads a falling ramp (42_envelope.md R171, R172). -/
theorem envEnterRelease_of_ne_zero {i : Instrument} (v : Voice) (h : i.release ≠ 0) :
    envEnterRelease i v =
      { v with
        envState := .release, envCount := i.release,
        envInc := toS32 (-(floorDiv v.envLevel.toNat i.release.toNat : Nat)) } := if_neg h

theorem noteOffVoice_of_silent (c : Config) {v : Voice} (h : v.playing = false) : noteOffVoice c v = v := if_pos h

theorem noteOffVoice_of_perc (c : Config) {v : Voice} (hplay : v.playing = true) (hperc : v.perc = true) :
    noteOffVoice c v = { v with playing := false } := by
  simp [noteOffVoice, hplay, hperc]

section MelodicNoteOff

variable {c : Config} {v : Voice} (hplay : v.playing = true) (hperc : v.perc = false)
include hplay hperc

theorem noteOffVoice_of_noEnvelope (hen : c.params.envelopeEn = false) : noteOffVoice c v = envToIdle v := by
  simp [noteOffVoice, hplay, hperc, hen]

theorem noteOffVoice_of_releasing (hen : c.params.envelopeEn = true) (hrel : v.envState = .release) :
    noteOffVoice c v = v := by
  simp [noteOffVoice, hplay, hperc, hen, hrel]

theorem noteOffVoice_of_sounding (hen : c.params.envelopeEn = true) (hrel : v.envState ≠ .release) :
    noteOffVoice c v = envEnterRelease (instrument c v.actRef.toNat) v := by
  simp [noteOffVoice, hplay, hperc, hen, hrel]

end MelodicNoteOff

/-- Each case of R135 is one branch of note-off; a level of at most full scale makes the falling increment fit its
register. -/
theorem noteOffVoice_notedOff (c : Config) (v : Voice) : NotedOff c v (noteOffVoice c v) := by
  refine ⟨noteOffVoice_of_silent c, noteOffVoice_of_perc c, noteOffVoice_of_noEnvelope,
    noteOffVoice_of_releasing, ?sounding⟩
  case sounding =>
    intro hplay hperc hen hrel i hi
    rw [noteOffVoice_of_sounding hplay hperc hen hrel, instrument_of_getElem c hi]
    refine ⟨envEnterRelease_of_zero v, fun hdur hlevel => ?ramp⟩
    case ramp =>
      rw [envEnterRelease_of_ne_zero v hdur]
      exact ⟨toS32_neg_natCast ((Nat.div_le_self _ _).trans hlevel), rfl⟩

/-- The halt of a score note-offs every voice there is (40_score_interpreter.md R110). -/
theorem State.haltScore_notedOff (s : State) {u : Nat} {v : Voice} (hv : s.voices[u]? = some v) :
    ∃ w, s.haltScore.voices[u]? = some w ∧ NotedOff s.cfg v w :=
  ⟨_, by rw [State.haltScore_voices, List.getElem?_map, hv]; rfl, noteOffVoice_notedOff s.cfg v⟩

/-- Between transactions there is no STEP to return from. -/
theorem State.returnFromStep_of_idle {s : State} (h : s.activity = .idle) : s.returnFromStep = s := by
  simp only [State.returnFromStep, h]
  rw [← h]

theorem exec_stop_of_idle {s : State} (x : BitVec 4) (h : s.activity = .idle) :
    exec (.stop x) s = .next (s.advance 1).haltScore :=
  congrArg _ (State.returnFromStep_of_idle (s := (s.advance 1).haltScore) h)

theorem State.stopScore_of_playing {s : State} (h : s.scorePlaying = true) : s.stopScore = s.haltScore := if_pos h

theorem State.stopScore_of_notPlaying {s : State} (h : s.scorePlaying = false) : s.stopScore = s :=
  if_neg (ne_true_of_eq_false h)

/-- STOP() runs no STEP and leaves the score not playing, whether or not it played. -/
theorem State.stopScore_leaves (s : State) :
    s.stopScore.activity = s.activity ∧ s.stopScore.script = s.script ∧ s.stopScore.scorePlaying = false := by
  cases h : s.scorePlaying with
  | false =>
    rw [State.stopScore_of_notPlaying h]
    exact ⟨rfl, rfl, h⟩
  | true =>
    rw [State.stopScore_of_playing h]
    exact ⟨rfl, rfl, rfl⟩

/-- STOP() of a score that does not play is only taken off the script. -/
theorem step_stop_of_notPlaying {s : State} {rest : List HostOp} (hidle : s.activity = .idle)
    (hscript : s.script = .stop :: rest) (hoff : s.scorePlaying = false) :
    step s = .next { s with script := rest } :=
  (step_of_script hidle hscript).trans (congrArg _ (State.stopScore_of_notPlaying hoff))

/-- Settles O39: the step is `stopScore` on the rest of the script, which halts a playing score and leaves it not
playing in either case, so that the next STOP() finds nothing to do. -/
theorem stopTransactionIsIdempotent : Obligations.StopTransactionIsIdempotent := by
  unfold Obligations.StopTransactionIsIdempotent
  intro s rest hidle hscript
  refine ⟨({ s with script := rest } : State).stopScore, step_of_script hidle hscript,
    fun hoff => State.stopScore_of_notPlaying hoff, ?playing, ?second⟩
  case playing =>
    intro hplay
    rw [State.stopScore_of_playing (s := { s with script := rest }) hplay]
    exact ⟨List.length_map _, fun u v hv => State.haltScore_notedOff _ hv, rfl,
      fun x => ⟨_, exec_stop_of_idle x hidle, rfl⟩⟩
  case second =>
    intro rest' hrest
    obtain ⟨hact, hleft, hoff⟩ := State.stopScore_leaves { s with script := rest }
    exact step_stop_of_notPlaying (hact.trans hidle) (hleft.trans hrest) hoff

/-- Settles O40: an idle block does the reply and nothing else, and reset clears `score_playing`. -/
theorem isPlayingReturnsScorePlaying : Obligations.IsPlayingReturnsScorePlaying := by
  unfold Obligations.IsPlayingReturnsScorePlaying
  exact ⟨fun s rest hidle hscript => step_of_script hidle hscript,
    fun c m rest => ⟨_, step_of_script rfl rfl, rfl⟩⟩

end Sys2Proof.Machine
end

/-! SUPPORT. The decoder reads an encoding and nothing else (30_encoding.md R80 to R86): a list of bytes long enough
for its first byte begins with the encoding of some command. -/

section
namespace Sys2Proof

/-- Settles O1: a well-formed command is as long as its first byte says, and its bytes read as it stands. -/
theorem decodeOfEncode : Obligations.DecodeOfEncode := by
  unfold Obligations.DecodeOfEncode
  exact fun _ _ rest hwf => decode_encode_append rest hwf

theorem opcode_append_tail {op : BitVec 4} {b : Byte} (hop : opOf b = op) (tl : List Byte) :
    (op ++ lowNibble b) :: tl = b :: tl := by
  rw [← hop, opOf_append_lowNibble]

/-- Every first byte begins a command, given the bytes its length asks for (30_encoding.md R82, R86). -/
theorem exists_encode_append {vol : Bool} {b : Byte} {tl : List Byte} (hlen : cmdLength vol b ≤ (b :: tl).length) :
    ∃ i rest, encode i ++ rest = b :: tl ∧ WellFormed vol i = true := by
  cases hclass : classBit b with
  | false =>
    match tl, hlen with
    | [], hlen => simp [cmdLength, hclass] at hlen
    | b1 :: rest, _ =>
      obtain ⟨hhigh, hlow⟩ := encode_waitCount b b1 hclass
      exact ⟨.wait (waitCount b b1), rest, by simp [encode, hhigh, hlow], rfl⟩
  | true =>
    have hops := opOf_of_classBit b hclass
    simp only [List.mem_cons, List.not_mem_nil, or_false] at hops
    obtain h8 | h9 | hA | hB | hC | hD | hE | hF := hops
    · exact ⟨.noteOff (lowNibble b), tl, opcode_append_tail h8 tl, rfl⟩
    · match vol, tl, hlen with
      | false, n :: rest, _ => exact ⟨.noteOn (lowNibble b) n, rest, opcode_append_tail h9 _, rfl⟩
      | true, n :: vel :: rest, _ => exact ⟨.noteOnVel (lowNibble b) n vel, rest, opcode_append_tail h9 _, rfl⟩
      | false, [], hlen => simp [cmdLength, hclass, h9] at hlen
      | true, [], hlen => simp [cmdLength, hclass, h9] at hlen
      | true, [_], hlen => simp [cmdLength, hclass, h9] at hlen
    · exact ⟨.rsvdA (lowNibble b), tl, opcode_append_tail hA tl, rfl⟩
    · exact ⟨.rsvdB (lowNibble b), tl, opcode_append_tail hB tl, rfl⟩
    · match tl, hlen with
      | id :: rest, _ => exact ⟨.instr (lowNibble b) id, rest, opcode_append_tail hC _, rfl⟩
      | [], hlen => simp [cmdLength, hclass, hC] at hlen
    · exact ⟨.rsvdD (lowNibble b), tl, opcode_append_tail hD tl, rfl⟩
    · exact ⟨.restart (lowNibble b), tl, opcode_append_tail hE tl, rfl⟩
    · exact ⟨.stop (lowNibble b), tl, opcode_append_tail hF tl, rfl⟩

theorem cmdLength_le_of_decode {vol : Bool} {b : Byte} {tl : List Byte} {r : Instr × List Byte}
    (h : decode vol (b :: tl) = .ok r) : cmdLength vol b ≤ (b :: tl).length := by
  by_contra hshort
  rw [decode, if_pos (Nat.not_le.1 hshort)] at h
  cases h

theorem encode_append_of_decode {vol : Bool} {bytes : List Byte} {i : Instr} {rest : List Byte}
    (h : decode vol bytes = .ok (i, rest)) : encode i ++ rest = bytes ∧ WellFormed vol i = true := by
  cases bytes with
  | nil => cases h
  | cons b tl =>
    obtain ⟨j, rest', hbytes, hwf⟩ := exists_encode_append (cmdLength_le_of_decode h)
    have hsame := (decode_of_encode_append_eq hbytes hwf).symm.trans h
    obtain ⟨rfl, rfl⟩ := Prod.mk.inj (Except.ok.inj hsame)
    exact ⟨hbytes, hwf⟩

/-- Settles O2: bytes the decoder accepts begin with the encoding of some well-formed command, which by the other
round trip is the one it reads. -/
theorem encodeOfDecode : Obligations.EncodeOfDecode := by
  unfold Obligations.EncodeOfDecode
  exact fun _ _ _ _ h => encode_append_of_decode h

/-- Settles O5: each list of bytes begins with the encoding of the command beside it. -/
theorem specWordsDecode : Obligations.SpecWordsDecode := by
  unfold Obligations.SpecWordsDecode
  refine ⟨?_, ?_, ?_, ?_, ?_, ?_, ?_, ?_, ?_, ?_⟩ <;>
    exact decode_of_encode_append_eq (by decide) rfl

end Sys2Proof

namespace Sys2Proof.Machine

/-- Settles O6: inside STEP the three bytes at the cursor decode to the command fetched. -/
theorem stepRunsTheDecodedCommand : Obligations.StepRunsTheDecodedCommand := by
  unfold Obligations.StepRunsTheDecodedCommand
  refine ⟨fun s c i rest hc hdec => ?runs, fun s => ⟨_, _, s.decode_bytesAtCursor⟩⟩
  case runs =>
    obtain ⟨-, hwf⟩ := encode_append_of_decode hdec
    exact ⟨hwf, step_of_decode hc hdec⟩

/-! A word of the opcode table stored at the cursor (log entry 9). -/

section FetchWord

variable (s : State) (nbits w : Nat)

theorem State.withFetchWord_activity : ∃ c, (s.withFetchWord nbits w).activity = .interp c := by
  cases h : s.activity <;> simp [State.withFetchWord, h]

/-- The three addresses at and after the cursor differ, so each byte reads back as it was written. -/
theorem State.withFetchWord_byteAt (hwf : s.score.wf = true) {k : Nat} (hk : k < 3) :
    (s.withFetchWord nbits w).byteAt k = tableByte nbits w k := by
  have hwf0 := Memory.write_wf hwf s.cursor (tableByte nbits w 0)
  have hwf1 := Memory.write_wf hwf0 (s.cursor + 1) (tableByte nbits w 1)
  simp only [State.byteAt, State.withFetchWord]
  rw [Memory.read_write hwf1, Memory.read_write hwf0, Memory.read_write hwf]
  match k, hk with
  | 0, _ => rw [if_neg (by bv_omega), if_neg (by bv_omega), if_pos (by bv_omega)]
  | 1, _ => rw [if_neg (by bv_omega)]; exact if_pos rfl
  | 2, _ => exact if_pos rfl

/-- What the table word decodes to is read from its own three bytes. -/
theorem decodeFrom_of_decodeTableWord {nbits w : Nat} {i : Instr} (h : decodeTableWord nbits w = some i) :
    decodeFrom (tableVolume nbits)
      (fun k => [tableByte nbits w 0, tableByte nbits w 1, tableByte nbits w 2].getD k 0) = i := by
  simp only [decodeTableWord, decode] at h
  split at h
  · next hdec =>
    split at hdec
    · cases hdec
    · cases hdec
      exact Option.some.inj h
  · cases h

theorem State.withFetchWord_fetched {i : Instr} (hwf : s.score.wf = true) (h : decodeTableWord nbits w = some i) :
    (s.withFetchWord nbits w).fetched = i := by
  rw [← decodeFrom_of_decodeTableWord h]
  refine decodeFrom_congr (fun k hk => ?bytes) (fun h9 => if_pos h9)
  case bytes =>
    rw [s.withFetchWord_byteAt nbits w hwf hk]
    match k, hk with
    | 0, _ | 1, _ | 2, _ => rfl

end FetchWord

/-- Settles O7: the word's three bytes are what the fetch reads, under the mode bit its row needs. -/
theorem tableWordRunsNext : Obligations.TableWordRunsNext := by
  unfold Obligations.TableWordRunsNext
  intro s nbits w i hwf hword
  obtain ⟨c, hc⟩ := s.withFetchWord_activity nbits w
  rw [step_of_interp hc, s.withFetchWord_fetched nbits w hwf hword]

end Sys2Proof.Machine
end

/-! SUPPORT. The envelope (42_envelope.md R160 to R176): what each entry procedure leaves, that every way on goes
forward, that levels and ramps stay in range, and the voice invariants of 10_state.md R42 under a tick and a
note-off. -/

section
namespace Sys2Proof.Machine

open Sys2Proof.Claims

/-! The entry procedures leave the registers their segments begin with (42_envelope.md R162 to R168). -/

section Entry

variable (i : Instrument) (v : Voice)

theorem envEnterSustain_begins : SustainBegins i (envEnterSustain i v) := ⟨rfl, rfl, rfl, rfl⟩

theorem envEnterDecay_begins : DecayBegins i (envEnterDecay i v) := by
  refine ⟨fun hdur => ?_, fun hdur => ?_⟩
  · rw [envEnterDecay, if_pos hdur]
    exact ⟨rfl, toU32_envFull, toS32_neg_natCast ((Nat.div_le_self _ _).trans (Nat.sub_le _ _)), rfl⟩
  · rw [envEnterDecay, if_neg (not_not_intro hdur)]
    exact envEnterSustain_begins i v

theorem envEnterHold_begins : HoldBegins i (envEnterHold i v) := by
  refine ⟨fun hdur => ?_, fun hdur => ?_⟩
  · rw [envEnterHold, if_pos hdur]
    exact ⟨rfl, toU32_envFull, rfl, rfl⟩
  · rw [envEnterHold, if_neg (not_not_intro hdur)]
    exact envEnterDecay_begins i v

theorem envEnterAttack_begins : AttackBegins i (envEnterAttack i v) := by
  refine ⟨fun hdur => ?_, fun hdur => ?_⟩
  · rw [envEnterAttack, if_pos hdur]
    exact ⟨rfl, rfl, toS32_natCast (Nat.div_le_self _ _), rfl⟩
  · rw [envEnterAttack, if_neg (not_not_intro hdur)]
    exact envEnterHold_begins i v

theorem envEnterDelay_begins : EnvelopeBegins i (envEnterDelay i v) := by
  refine ⟨fun hdur => ?_, fun hdur => ?_⟩
  · rw [envEnterDelay, if_pos hdur]
    exact ⟨rfl, rfl, rfl, rfl⟩
  · rw [envEnterDelay, if_neg (not_not_intro hdur)]
    exact envEnterAttack_begins i v

variable {i v}

/-- A timed state leaves to the segment R170 names. -/
theorem envLeave_leftTo (ht : v.envState.timed = true) : LeftTo i v.envState (envLeave i v) := by
  cases he : v.envState with
  | idle | sustain => simp [he, EnvState.timed] at ht
  | delay => simp only [envLeave, he]; exact envEnterAttack_begins i v
  | attack => simp only [envLeave, he]; exact envEnterHold_begins i v
  | hold => simp only [envLeave, he]; exact envEnterDecay_begins i v
  | decay => simp only [envLeave, he]; exact envEnterSustain_begins i v
  | release => simp [envLeave, he, LeftTo, envToIdle]

/-- Only the end of a Release ends the note (42_envelope.md R170, R173). -/
theorem envLeave_playing :
    (envLeave i v).playing = (v.playing && !decide (v.envState = .release)) := by
  cases he : v.envState <;> simp [envLeave, he]

end Entry

/-! The order of the states (42_envelope.md R174). -/

section Order

variable {i : Instrument} {w : Voice}

theorem sustainBegins_rank (h : SustainBegins i w) : envRank w.envState = 5 := by
  obtain ⟨hstate, -⟩ := h
  rw [hstate]; rfl

theorem decayBegins_rank (h : DecayBegins i w) : 4 ≤ envRank w.envState ∧ envRank w.envState ≤ 5 := by
  obtain ⟨hseg, hskip⟩ := h
  by_cases hdur : i.decay = 0
  · have := sustainBegins_rank (hskip hdur)
    omega
  · rw [(hseg hdur).1]
    decide

theorem holdBegins_rank (h : HoldBegins i w) : 3 ≤ envRank w.envState ∧ envRank w.envState ≤ 5 := by
  obtain ⟨hseg, hskip⟩ := h
  by_cases hdur : i.hold = 0
  · have := decayBegins_rank (hskip hdur)
    omega
  · rw [(hseg hdur).1]
    decide

theorem attackBegins_rank (h : AttackBegins i w) : 2 ≤ envRank w.envState ∧ envRank w.envState ≤ 5 := by
  obtain ⟨hseg, hskip⟩ := h
  by_cases hdur : i.attack = 0
  · have := holdBegins_rank (hskip hdur)
    omega
  · rw [(hseg hdur).1]
    decide

theorem envelopeBegins_rank (h : EnvelopeBegins i w) : 1 ≤ envRank w.envState ∧ envRank w.envState ≤ 5 := by
  obtain ⟨hseg, hskip⟩ := h
  by_cases hdur : i.delay = 0
  · have := attackBegins_rank (hskip hdur)
    omega
  · rw [(hseg hdur).1]
    decide

/-- Leaving a segment goes to a later state, and to Idle from Release alone. -/
theorem leftTo_rank {e : EnvState} (h : LeftTo i e w) :
    envRank e < envRank w.envState ∧ (e ≠ .release → envRank w.envState ≤ 5) := by
  cases e with
  | idle | sustain => exact h.elim
  | delay => obtain ⟨hlo, hhi⟩ := attackBegins_rank h; exact ⟨hlo, fun _ => hhi⟩
  | attack => obtain ⟨hlo, hhi⟩ := holdBegins_rank h; exact ⟨hlo, fun _ => hhi⟩
  | hold => obtain ⟨hlo, hhi⟩ := decayBegins_rank h; exact ⟨hlo, fun _ => hhi⟩
  | decay => exact ⟨(sustainBegins_rank h).ge, fun _ => (sustainBegins_rank h).le⟩
  | release =>
    obtain ⟨hidle, -⟩ := h
    rw [hidle]
    decide

theorem ne_idle_of_rank_le {e : EnvState} (h : envRank e ≤ 5) : e ≠ .idle := by
  rintro rfl
  exact absurd h (by decide)

end Order

/-! Levels and ramps in range (10_state.md R42 (d) to (f), 42_envelope.md R176). -/

/-- What `Voice.Ok` says of the envelope registers alone. -/
def Voice.EnvelopeOk (v : Voice) : Prop :=
  (v.envCount ≠ 0 ↔ v.envState.timed = true) ∧ v.envLevel.toNat ≤ envFull ∧
  (0 ≤ v.rampEnd ∧ v.rampEnd ≤ envFull) ∧ v.envState.incOk v.envInc.toInt = true

/-- A level that does not move stays in range. -/
theorem Voice.envelopeOk_of_flat {v : Voice} (hcount : v.envCount ≠ 0 ↔ v.envState.timed = true)
    (hlevel : v.envLevel.toNat ≤ envFull) (hinc : v.envInc.toInt = 0) : v.EnvelopeOk := by
  have hramp : v.rampEnd = v.envLevel.toNat := by simp [Voice.rampEnd, hinc]
  refine ⟨hcount, hlevel, by omega, ?_⟩
  rw [hinc]
  cases v.envState <;> rfl

/-- A fall of at most `a` in all, `a / count` each tick, does not pass below 0 (42_envelope.md R166, R171). -/
theorem Voice.rampEnd_of_falling {v : Voice} {a : Nat} (ha : a ≤ v.envLevel.toNat)
    (hinc : v.envInc.toInt = -((a / v.envCount.toNat : Nat) : Int)) :
    0 ≤ v.rampEnd ∧ v.rampEnd ≤ v.envLevel.toNat := by
  have hfall : v.envCount.toNat * (a / v.envCount.toNat) ≤ a := Nat.mul_div_le a _
  rw [Voice.rampEnd, hinc, mul_neg, ← Nat.cast_mul]
  omega

section InRange

variable {i : Instrument} {w : Voice}

theorem sustainBegins_envelopeOk (h : SustainBegins i w) (hsus : i.sustain.toNat ≤ envFull) : w.EnvelopeOk := by
  obtain ⟨hstate, hlevel, hinc, hcount⟩ := h
  exact Voice.envelopeOk_of_flat (by simp [hstate, hcount, EnvState.timed]) (hlevel ▸ hsus) hinc

theorem decayBegins_envelopeOk (h : DecayBegins i w) (hsus : i.sustain.toNat ≤ envFull) : w.EnvelopeOk := by
  obtain ⟨hseg, hskip⟩ := h
  by_cases hdur : i.decay = 0
  · exact sustainBegins_envelopeOk (hskip hdur) hsus
  · obtain ⟨hstate, hlevel, hinc, hcount⟩ := hseg hdur
    have hramp := Voice.rampEnd_of_falling (v := w) (a := 2 ^ 30 - i.sustain.toNat)
      ((Nat.sub_le _ _).trans hlevel.ge) (by rw [hinc, hcount])
    refine ⟨iff_of_true (hcount ▸ hdur) (by rw [hstate]; rfl), hlevel.le, ?_, ?_⟩
    · rw [hlevel] at hramp
      exact hramp
    · rw [hstate, hinc]
      exact decide_eq_true (neg_nonpos.2 (Int.natCast_nonneg _))

theorem holdBegins_envelopeOk (h : HoldBegins i w) (hsus : i.sustain.toNat ≤ envFull) : w.EnvelopeOk := by
  obtain ⟨hseg, hskip⟩ := h
  by_cases hdur : i.hold = 0
  · exact decayBegins_envelopeOk (hskip hdur) hsus
  · obtain ⟨hstate, hlevel, hinc, hcount⟩ := hseg hdur
    exact Voice.envelopeOk_of_flat (iff_of_true (hcount ▸ hdur) (by rw [hstate]; rfl)) hlevel.le hinc

theorem attackBegins_envelopeOk (h : AttackBegins i w) (hsus : i.sustain.toNat ≤ envFull) : w.EnvelopeOk := by
  obtain ⟨hseg, hskip⟩ := h
  by_cases hdur : i.attack = 0
  · exact holdBegins_envelopeOk (hskip hdur) hsus
  · obtain ⟨hstate, hlevel, hinc, hcount⟩ := hseg hdur
    have hrise : i.attack.toNat * (2 ^ 30 / i.attack.toNat) ≤ 2 ^ 30 := Nat.mul_div_le _ _
    have hramp : w.rampEnd = ((i.attack.toNat * (2 ^ 30 / i.attack.toNat) : Nat) : Int) := by
      simp [Voice.rampEnd, hlevel, hinc, hcount]
    refine ⟨iff_of_true (hcount ▸ hdur) (by rw [hstate]; rfl), by simp [hlevel], ?_, ?_⟩
    · rw [hramp, envFull]
      omega
    · rw [hstate, hinc]
      exact decide_eq_true (Int.natCast_nonneg (2 ^ 30 / i.attack.toNat))

theorem envelopeBegins_envelopeOk (h : EnvelopeBegins i w) (hsus : i.sustain.toNat ≤ envFull) : w.EnvelopeOk := by
  obtain ⟨hseg, hskip⟩ := h
  by_cases hdur : i.delay = 0
  · exact attackBegins_envelopeOk (hskip hdur) hsus
  · obtain ⟨hstate, hlevel, hinc, hcount⟩ := hseg hdur
    exact Voice.envelopeOk_of_flat (iff_of_true (hcount ▸ hdur) (by rw [hstate]; rfl)) (by simp [hlevel]) hinc

theorem leftTo_envelopeOk {e : EnvState} (h : LeftTo i e w) (hsus : i.sustain.toNat ≤ envFull) : w.EnvelopeOk := by
  cases e with
  | idle | sustain => exact h.elim
  | delay => exact attackBegins_envelopeOk h hsus
  | attack => exact holdBegins_envelopeOk h hsus
  | hold => exact decayBegins_envelopeOk h hsus
  | decay => exact sustainBegins_envelopeOk h hsus
  | release =>
    obtain ⟨hstate, hlevel, hinc, hcount⟩ := h
    exact Voice.envelopeOk_of_flat (by simp [hstate, hcount, EnvState.timed]) (by simp [hlevel]) (by simp [hinc])

end InRange

theorem envToIdle_envelopeOk (v : Voice) : (envToIdle v).EnvelopeOk :=
  Voice.envelopeOk_of_flat (by simp [envToIdle, EnvState.timed]) (Nat.zero_le _) rfl

theorem envNone_envelopeOk (v : Voice) : (envNone v).EnvelopeOk :=
  Voice.envelopeOk_of_flat (by simp [envNone, EnvState.timed]) (Nat.zero_le _) rfl

theorem envFullScale_envelopeOk (v : Voice) : (envFullScale v).EnvelopeOk :=
  Voice.envelopeOk_of_flat (by simp [envFullScale, EnvState.timed]) toU32_envFull.le rfl

/-- A release falls from the level it finds, at most to 0 (42_envelope.md R171, R176). -/
theorem envEnterRelease_envelopeOk {i : Instrument} {v : Voice} (hlevel : v.envLevel.toNat ≤ envFull) :
    (envEnterRelease i v).EnvelopeOk := by
  by_cases hdur : i.release = 0
  · rw [envEnterRelease_of_zero v hdur]
    exact envToIdle_envelopeOk v
  · have hinc : (toS32 (-((v.envLevel.toNat / i.release.toNat : Nat) : Int))).toInt = _ :=
      toS32_neg_natCast ((Nat.div_le_self _ _).trans hlevel)
    rw [envEnterRelease_of_ne_zero v hdur]
    obtain ⟨hlow, hhigh⟩ := Voice.rampEnd_of_falling
      (v := { v with
        envState := .release, envCount := i.release,
        envInc := toS32 (-(floorDiv v.envLevel.toNat i.release.toNat : Nat)) }) (Nat.le_refl v.envLevel.toNat) hinc
    refine ⟨iff_of_true hdur rfl, hlevel, ⟨hlow, hhigh.trans (Int.ofNat_le.2 hlevel)⟩, ?_⟩
    exact decide_eq_true (hinc.trans_le (neg_nonpos.2 (Int.natCast_nonneg _)))

/-! One tick of a segment (42_envelope.md R170). -/

section CountDown

variable {v : Voice} (hok : v.EnvelopeOk) (ht : v.envState.timed = true)
include hok ht

theorem Voice.EnvelopeOk.one_le_count : 1 ≤ v.envCount.toNat := by
  have hne : v.envCount ≠ 0 := hok.1.2 ht
  bv_omega

/-- One increment goes no further than all the increments of the segment. -/
theorem Voice.EnvelopeOk.next_level :
    0 ≤ v.envLevel.toNat + v.envInc.toInt ∧ v.envLevel.toNat + v.envInc.toInt ≤ envFull := by
  have hcount := hok.one_le_count ht
  obtain ⟨-, hlevel, ⟨hlow, hhigh⟩, -⟩ := hok
  rw [Voice.rampEnd] at hlow hhigh
  rcases le_total 0 v.envInc.toInt with hsign | hsign
  · have hone : v.envInc.toInt ≤ v.envCount.toNat * v.envInc.toInt :=
      le_mul_of_one_le_left hsign (by omega)
    omega
  · have hone : v.envCount.toNat * v.envInc.toInt ≤ v.envInc.toInt :=
      mul_le_of_one_le_left hsign (by omega)
    omega

theorem envCountDown_envLevel :
    ((envCountDown v).envLevel.toNat : Int) = v.envLevel.toNat + v.envInc.toInt := by
  obtain ⟨hlow, hhigh⟩ := hok.next_level ht
  exact toU32_toNat hlow (hhigh.trans_lt (by decide))

theorem envCountDown_envCount : (envCountDown v).envCount.toNat = v.envCount.toNat - 1 := by
  have hcount := hok.one_le_count ht
  have hdown : (envCountDown v).envCount = v.envCount - 1 := rfl
  bv_omega

/-- A segment that goes on ends where it would have ended. -/
theorem envCountDown_envelopeOk (hlast : v.envCount.toNat ≠ 1) : (envCountDown v).EnvelopeOk := by
  have hcount := hok.one_le_count ht
  have hlevel := envCountDown_envLevel hok ht
  have hcount' := envCountDown_envCount hok ht
  obtain ⟨hlow, hhigh⟩ := hok.next_level ht
  obtain ⟨-, -, hramp, hinc⟩ := hok
  have hne : (envCountDown v).envCount ≠ 0 := by bv_omega
  have hsame : (envCountDown v).rampEnd = v.rampEnd := by
    have hpred : ((v.envCount.toNat - 1 : Nat) : Int) = v.envCount.toNat - 1 := by omega
    rw [Voice.rampEnd, hlevel, hcount', hpred, Voice.rampEnd]
    simp only [envCountDown]
    ring
  exact ⟨⟨fun _ => ht, fun _ => hne⟩, by omega, hsame ▸ hramp, hinc⟩

end CountDown

end Sys2Proof.Machine
end

/-! SUPPORT. The voice invariants of 10_state.md R42 by what a voice sounds, under a note-on, a note-off, an
instrument change and a tick; and what any number of ticks makes of one voice. -/

section
namespace Sys2Proof.Machine

open Sys2Proof.Claims

theorem Voice.melodic_iff {v : Voice} : v.melodic = true ↔ v.playing = true ∧ v.perc = false := by
  simp [Voice.melodic]

theorem Voice.percussive_iff {v : Voice} : v.percussive = true ↔ v.playing = true ∧ v.perc = true := by
  simp [Voice.percussive]

/-! The invariants of a voice, by what it sounds. -/

section VoiceOk

variable {c : Config} {v : Voice}

theorem Voice.Ok.envelopeOk (h : v.Ok c) : v.EnvelopeOk := by
  obtain ⟨-, hcount, hlevel, hramp, hinc, -⟩ := h
  exact ⟨hcount, hlevel, hramp, hinc⟩

theorem Voice.Ok.envLevel_le (h : v.Ok c) : v.envLevel.toNat ≤ envFull := by
  obtain ⟨-, -, hlevel, -⟩ := h
  exact hlevel

theorem Voice.Ok.instrSel_lt (h : v.Ok c) : v.instrSel.toNat < c.params.numInstr := by
  obtain ⟨-, -, -, -, -, -, -, -, hsel⟩ := h
  exact hsel

theorem Voice.Ok.of_melodic (h : v.Ok c) (hm : v.melodic = true) :
    v.envState ≠ .idle ∧ 1 ≤ v.vscale.toNat ∧ v.actRef.toNat < c.params.numInstr := by
  obtain ⟨hplay, hperc⟩ := Voice.melodic_iff.1 hm
  obtain ⟨hidle, -, -, -, -, -, hscale, hact, -⟩ := h
  exact ⟨fun he => by simp [hplay, hperc, he] at hidle, hscale hplay, hact hm⟩

theorem Voice.ok_of_melodic (hm : v.melodic = true) (hidle : v.envState ≠ .idle) (henv : v.EnvelopeOk)
    (hscale : 1 ≤ v.vscale.toNat) (hact : v.actRef.toNat < c.params.numInstr)
    (hsel : v.instrSel.toNat < c.params.numInstr) : v.Ok c := by
  obtain ⟨hplay, hperc⟩ := Voice.melodic_iff.1 hm
  obtain ⟨hcount, hlevel, hramp, hinc⟩ := henv
  exact ⟨iff_of_false hidle (by simp [hplay, hperc]), hcount, hlevel, hramp, hinc,
    by simp [Voice.percussive, hperc], fun _ => hscale, fun _ => hact, hsel⟩

theorem Voice.ok_of_silent (hplay : v.playing = false) (hidle : v.envState = .idle) (henv : v.EnvelopeOk)
    (hsel : v.instrSel.toNat < c.params.numInstr) : v.Ok c := by
  obtain ⟨hcount, hlevel, hramp, hinc⟩ := henv
  exact ⟨iff_of_true hidle (.inl hplay), hcount, hlevel, hramp, hinc, by simp [Voice.percussive, hplay],
    by simp [hplay], by simp [Voice.melodic, hplay], hsel⟩

/-- The sounding drum exists, its end index is the voice's, and the phase stands before it (R42 (g)). -/
def Voice.DrumOk (c : Config) (v : Voice) : Prop :=
  v.phase.toNat / 65536 < v.endIdx.toNat ∧ v.actRef.toNat < c.params.numDrums ∧
  v.endIdx = (drum c v.actRef.toNat).endIdx

theorem Voice.ok_of_percussive (hp : v.percussive = true) (hidle : v.envState = .idle) (henv : v.EnvelopeOk)
    (hdrum : v.DrumOk c) (hscale : 1 ≤ v.vscale.toNat) (hsel : v.instrSel.toNat < c.params.numInstr) : v.Ok c := by
  obtain ⟨-, hperc⟩ := Voice.percussive_iff.1 hp
  obtain ⟨hcount, hlevel, hramp, hinc⟩ := henv
  exact ⟨iff_of_true hidle (.inr hperc), hcount, hlevel, hramp, hinc, fun _ => hdrum, fun _ => hscale,
    by simp [Voice.melodic, hperc], hsel⟩

theorem Voice.Ok.of_percussive (h : v.Ok c) (hp : v.percussive = true) :
    v.envState = .idle ∧ v.DrumOk c ∧ 1 ≤ v.vscale.toNat := by
  obtain ⟨hplay, hperc⟩ := Voice.percussive_iff.1 hp
  obtain ⟨hidle, -, -, -, -, hdrum, hscale, -, -⟩ := h
  exact ⟨hidle.2 (.inr hperc), hdrum hp, hscale hplay⟩

/-- A voice is silent, or sounds a melodic note, or sounds a drum (10_state.md R22). -/
theorem Voice.silent_or_sounding (v : Voice) :
    v.playing = false ∨ v.melodic = true ∨ v.percussive = true := by
  cases hplay : v.playing with
  | false => exact .inl rfl
  | true =>
    cases hperc : v.perc with
    | false => exact .inr (.inl (Voice.melodic_iff.2 ⟨hplay, hperc⟩))
    | true => exact .inr (.inr (Voice.percussive_iff.2 ⟨hplay, hperc⟩))

end VoiceOk

theorem Voice.reset_ok (c : Config) : (Voice.reset c).Ok c := by
  obtain ⟨-, -, -, -, -, ⟨hinstr, -⟩, -, -⟩ := ranges c
  refine Voice.ok_of_silent rfl rfl (Voice.envelopeOk_of_flat (by simp [Voice.reset, EnvState.timed]) ?_ rfl) ?_
  · exact Nat.zero_le _
  · rwa [Voice.reset_instrSel_toNat]

/-! Note-on, note-off, instrument change. -/

section Notes

variable {c : Config} {v : Voice}

theorem one_le_velocityScale (vel : Byte) : 1 ≤ (velocityScale vel).toNat := by
  rw [velocityScale_toNat]
  exact le_max_left _ _

/-- A note begins in some state but Idle, its ramp in range (42_envelope.md R163, R168, R175, R176). -/
theorem envStart_envelopeOk (hact : v.actRef.toNat < c.params.numInstr) :
    (envStart c v).EnvelopeOk ∧ (envStart c v).envState ≠ .idle := by
  unfold envStart
  split
  · have hbegins := envEnterDelay_begins (instrument c v.actRef.toNat) v
    obtain ⟨-, hsus⟩ := instrument_ok c hact
    exact ⟨envelopeBegins_envelopeOk hbegins hsus, ne_idle_of_rank_le (envelopeBegins_rank hbegins).2⟩
  · exact ⟨envFullScale_envelopeOk v, by simp [envFullScale]⟩

theorem melodicOn_ok (n vel : Byte) (l : BitVec 8) (h : v.Ok c) : (melodicOn c n vel l v).Ok c := by
  have hsel := h.instrSel_lt
  obtain ⟨henv, hidle⟩ := envStart_envelopeOk (c := c) (v := { v with
    perc := false, actRef := v.instrSel, inc := noteInc c (clampNote c n),
    phase := trunc32 (l.toNat * 2 ^ 24), vscale := velocityScale vel, endIdx := 0, playing := true }) hsel
  refine Voice.ok_of_melodic ?_ hidle henv ?_ ?_ ?_
  · simp [Voice.melodic, melodicOn]
  · simpa [melodicOn] using one_le_velocityScale vel
  · simpa [melodicOn] using hsel
  · simpa [melodicOn] using hsel

theorem percussionOn_ok {n d : Byte} (vel : Byte) (hd : drumOf c n = some d) (h : v.Ok c) :
    (percussionOn c d vel v).Ok c := by
  have hlt := drumOf_lt c hd
  obtain ⟨-, hend, -⟩ := drum_ok c hlt
  have hphase : (percussionOn c d vel v).phase.toNat / 65536 < (percussionOn c d vel v).endIdx.toNat := by
    simpa [percussionOn] using Nat.lt_of_succ_le hend
  exact Voice.ok_of_percussive rfl rfl (envNone_envelopeOk _) ⟨hphase, hlt, rfl⟩ (one_le_velocityScale vel)
    h.instrSel_lt

theorem selectInstrument_ok {id k : Byte} (hk : patchOf c id = some k) (h : v.Ok c) :
    Voice.Ok c { v with instrSel := k } := by
  obtain ⟨hidle, hcount, hlevel, hramp, hinc, hdrum, hscale, hact, -⟩ := h
  exact ⟨hidle, hcount, hlevel, hramp, hinc, hdrum, hscale, hact, patchOf_lt c hk⟩

theorem envToIdle_ok (h : v.Ok c) : (envToIdle v).Ok c :=
  Voice.ok_of_silent rfl rfl (envToIdle_envelopeOk v) h.instrSel_lt

/-- Everything a note-off can do to a voice (41_voice_oscillator.md R135, 42_envelope.md R171). -/
theorem noteOffVoice_cases (c : Config) (v : Voice) :
    (v.playing = false ∧ noteOffVoice c v = v) ∨
    (v.percussive = true ∧ noteOffVoice c v = { v with playing := false }) ∨
    (v.melodic = true ∧ noteOffVoice c v = envToIdle v) ∨
    (v.melodic = true ∧ v.envState = .release ∧ noteOffVoice c v = v) ∨
    (v.melodic = true ∧ c.params.envelopeEn = true ∧ (instrument c v.actRef.toNat).release ≠ 0 ∧
      noteOffVoice c v = envEnterRelease (instrument c v.actRef.toNat) v) := by
  obtain hplay | hm | hp := v.silent_or_sounding
  · exact .inl ⟨hplay, noteOffVoice_of_silent c hplay⟩
  · obtain ⟨hplay, hperc⟩ := Voice.melodic_iff.1 hm
    cases hen : c.params.envelopeEn with
    | false => exact .inr (.inr (.inl ⟨hm, noteOffVoice_of_noEnvelope hplay hperc hen⟩))
    | true =>
      by_cases hrel : v.envState = .release
      · exact .inr (.inr (.inr (.inl ⟨hm, hrel, noteOffVoice_of_releasing hplay hperc hen hrel⟩)))
      · have hoff := noteOffVoice_of_sounding hplay hperc hen hrel
        by_cases hdur : (instrument c v.actRef.toNat).release = 0
        · exact .inr (.inr (.inl ⟨hm, hoff.trans (envEnterRelease_of_zero v hdur)⟩))
        · exact .inr (.inr (.inr (.inr ⟨hm, rfl, hdur, hoff⟩)))
  · obtain ⟨hplay, hperc⟩ := Voice.percussive_iff.1 hp
    exact .inr (.inl ⟨hp, noteOffVoice_of_perc c hplay hperc⟩)

theorem noteOffVoice_ok (h : v.Ok c) : (noteOffVoice c v).Ok c := by
  obtain ⟨-, hoff⟩ | ⟨hp, hoff⟩ | ⟨-, hoff⟩ | ⟨-, -, hoff⟩ | ⟨hm, -, hdur, hoff⟩ := noteOffVoice_cases c v <;>
    rw [hoff]
  · exact h
  · obtain ⟨hidle, -, -⟩ := h.of_percussive hp
    exact Voice.ok_of_silent rfl hidle h.envelopeOk h.instrSel_lt
  · exact envToIdle_ok h
  · exact h
  · obtain ⟨-, hscale, hact⟩ := h.of_melodic hm
    have henv := envEnterRelease_envelopeOk (i := instrument c v.actRef.toNat) h.envLevel_le
    rw [envEnterRelease_of_ne_zero v hdur] at henv ⊢
    exact Voice.ok_of_melodic hm (by simp) henv hscale hact h.instrSel_lt

/-- Settles O26: a note-off does nothing, and then nothing again, or silences the voice, or leaves it in Release, which
the next one leaves alone. -/
theorem noteOffIsIdempotent : Obligations.NoteOffIsIdempotent := by
  unfold Obligations.NoteOffIsIdempotent
  intro c v
  obtain ⟨-, hoff⟩ | ⟨-, hoff⟩ | ⟨-, hoff⟩ | ⟨-, -, hoff⟩ | ⟨hm, hen, hdur, hoff⟩ := noteOffVoice_cases c v <;>
    rw [hoff]
  · exact hoff
  · exact noteOffVoice_of_silent c rfl
  · exact noteOffVoice_of_silent c rfl
  · exact hoff
  · obtain ⟨hplay, hperc⟩ := Voice.melodic_iff.1 hm
    rw [envEnterRelease_of_ne_zero v hdur]
    exact noteOffVoice_of_releasing hplay hperc hen rfl

end Notes

/-! One tick of a voice (44_render_step.md R199). -/

section Advance

variable {c : Config} {v : Voice}

theorem trunc32_add (a b : Word) : trunc32 (a.toNat + b.toNat) = a + b :=
  BitVec.eq_of_toNat_eq (by simp [trunc32])

theorem advanceVoice_silent (c : Config) (h : v.playing = false) : advanceVoice c v = v := if_pos h

/-- A melodic voice out of a timed state moves its phase alone (42_envelope.md R170). -/
theorem advanceVoice_untimed (hm : v.melodic = true) (ht : v.envState.timed = false) :
    advanceVoice c v = melodicPhase v := by
  rw [advanceVoice_melodic hm, envTick]
  exact if_neg (ne_true_of_eq_false ht)

/-- A tick inside a segment. -/
theorem advanceVoice_within (hm : v.melodic = true) (ht : v.envState.timed = true)
    (hlast : v.envCount.toNat ≠ 1) : advanceVoice c v = envCountDown (melodicPhase v) := by
  rw [advanceVoice_timed hm ht, if_neg fun h => hlast (by rw [h]; rfl)]

/-- The last tick of a segment. -/
theorem advanceVoice_last (hm : v.melodic = true) (ht : v.envState.timed = true) (hlast : v.envCount.toNat = 1) :
    advanceVoice c v = envLeave (instrument c v.actRef.toNat) (envCountDown (melodicPhase v)) := by
  rw [advanceVoice_timed hm ht, if_pos (BitVec.eq_of_toNat_eq hlast)]

theorem advanceVoice_melodic_ok (hm : v.melodic = true) (h : v.Ok c) : (advanceVoice c v).Ok c := by
  have hsel := h.instrSel_lt
  have henv : (melodicPhase v).EnvelopeOk := h.envelopeOk
  obtain ⟨hidle, hscale, hact⟩ := h.of_melodic hm
  cases ht : v.envState.timed with
  | false =>
    rw [advanceVoice_untimed hm ht]
    exact Voice.ok_of_melodic hm hidle henv hscale hact hsel
  | true =>
    by_cases hlast : v.envCount.toNat = 1
    · obtain ⟨-, hsus⟩ := instrument_ok c hact
      have hleft := envLeave_leftTo (i := instrument c v.actRef.toNat) (v := envCountDown (melodicPhase v)) ht
      have henv' := leftTo_envelopeOk hleft hsus
      obtain ⟨-, hrank⟩ := leftTo_rank hleft
      rw [advanceVoice_last hm ht hlast]
      by_cases hrel : v.envState = .release
      · rw [envLeave, show (envCountDown (melodicPhase v)).envState = .release from hrel]
        exact Voice.ok_of_silent rfl rfl (envToIdle_envelopeOk _) hsel
      · refine Voice.ok_of_melodic ?_ (ne_idle_of_rank_le (hrank hrel)) henv' ?_ ?_ ?_
        · obtain ⟨hplay, hperc⟩ := Voice.melodic_iff.1 hm
          simp [Voice.melodic_iff, envLeave_playing, envCountDown, melodicPhase, hplay, hperc, hrel]
        · simpa [melodicPhase] using hscale
        · simpa [melodicPhase] using hact
        · simpa [melodicPhase] using hsel
    · rw [advanceVoice_within hm ht hlast]
      exact Voice.ok_of_melodic hm hidle (envCountDown_envelopeOk henv ht hlast) hscale hact hsel

/-- While the sum stands before the end index it fits the register (41_voice_oscillator.md R143). -/
theorem percussionAdvance_phase (hend : (v.phase.toNat + v.inc.toNat) / 65536 < v.endIdx.toNat) :
    (percussionAdvance v).phase.toNat = v.phase.toNat + v.inc.toNat := by
  have hidx := v.endIdx.isLt
  exact Nat.mod_eq_of_lt (by omega)

theorem percussionAdvance_playing (v : Voice) : (percussionAdvance v).playing =
    (v.playing && decide ((v.phase.toNat + v.inc.toNat) / 65536 < v.endIdx.toNat)) := rfl

theorem advanceVoice_percussive_ok (hp : v.percussive = true) (h : v.Ok c) : (advanceVoice c v).Ok c := by
  have hsel := h.instrSel_lt
  have henv : (percussionAdvance v).EnvelopeOk := h.envelopeOk
  obtain ⟨hidle, ⟨-, hact, hdrum⟩, hscale⟩ := h.of_percussive hp
  obtain ⟨hplay, hperc⟩ := Voice.percussive_iff.1 hp
  rw [advanceVoice_percussive hp]
  by_cases hend : (v.phase.toNat + v.inc.toNat) / 65536 < v.endIdx.toNat
  · have hphase : (percussionAdvance v).phase.toNat / 65536 < v.endIdx.toNat := by
      rwa [percussionAdvance_phase hend]
    refine Voice.ok_of_percussive ?_ hidle henv ⟨hphase, hact, hdrum⟩ hscale hsel
    exact Voice.percussive_iff.2 ⟨by simp [percussionAdvance_playing, hplay, hend], hperc⟩
  · exact Voice.ok_of_silent (by simp [percussionAdvance_playing, hend]) hidle henv hsel

theorem advanceVoice_ok (h : v.Ok c) : (advanceVoice c v).Ok c := by
  obtain hplay | hm | hp := v.silent_or_sounding
  · rwa [advanceVoice_silent c hplay]
  · exact advanceVoice_melodic_ok hm h
  · exact advanceVoice_percussive_ok hp h

/-- Settles O35: the advance by what the voice sounds, and its frame. -/
theorem advanceMovesOnlyPlayingVoices : Obligations.AdvanceMovesOnlyPlayingVoices := by
  unfold Obligations.AdvanceMovesOnlyPlayingVoices
  refine fun c v => ⟨advanceVoice_silent c, fun hm => ?melodic, fun hp => ?percussive, advanceVoice_frame c v⟩
  case melodic =>
    rw [advanceVoice_melodic hm, envTick_phase]
    exact trunc32_add v.phase v.inc
  case percussive =>
    obtain ⟨hplay, -⟩ := Voice.percussive_iff.1 hp
    rw [advanceVoice_percussive hp]
    exact ⟨trunc32_add v.phase v.inc, by simp [percussionAdvance_playing, hplay]⟩

theorem envRank_le_idle (e : EnvState) : envRank e ≤ envRank .idle := by
  cases e <;> decide

theorem envRank_le_release {e : EnvState} (h : e ≠ .idle) : envRank e ≤ envRank .release := by
  cases e with
  | idle => exact absurd rfl h
  | _ => decide

/-- Settles O25: a tick stays in the segment or leaves it to a later one, and a note-off goes to Release or Idle. -/
theorem envelopeNeverGoesBack : Obligations.EnvelopeNeverGoesBack := by
  unfold Obligations.EnvelopeNeverGoesBack
  intro c v h hm
  obtain ⟨hplay, hperc⟩ := Voice.melodic_iff.1 hm
  refine ⟨?advance, ?noteOff, ?ends⟩
  case advance =>
    cases ht : v.envState.timed with
    | false => rw [advanceVoice_untimed hm ht]; exact le_rfl
    | true =>
      by_cases hlast : v.envCount.toNat = 1
      · rw [advanceVoice_last hm ht hlast]
        exact (leftTo_rank (envLeave_leftTo (v := envCountDown (melodicPhase v)) ht)).1.le
      · rw [advanceVoice_within hm ht hlast]; exact le_rfl
  case noteOff =>
    obtain ⟨hidle, -, -⟩ := h.of_melodic hm
    obtain ⟨-, hoff⟩ | ⟨-, hoff⟩ | ⟨-, hoff⟩ | ⟨-, -, hoff⟩ | ⟨-, -, hdur, hoff⟩ := noteOffVoice_cases c v <;>
      rw [hoff]
    · exact envRank_le_idle v.envState
    · rw [envEnterRelease_of_ne_zero v hdur]
      exact envRank_le_release hidle
  case ends =>
    intro hsilent
    cases ht : v.envState.timed with
    | false => rw [advanceVoice_untimed hm ht] at hsilent; exact absurd hplay (by simpa [melodicPhase] using hsilent)
    | true =>
      by_cases hlast : v.envCount.toNat = 1
      · rw [advanceVoice_last hm ht hlast, envLeave_playing] at hsilent
        simpa [envCountDown, melodicPhase, hplay] using hsilent
      · rw [advanceVoice_within hm ht hlast] at hsilent
        exact absurd hplay (by simpa [melodicPhase] using hsilent)

end Advance

/-! Any number of ticks of a voice. -/

section Advances

variable {c : Config} {v : Voice}

theorem advances_succ (c : Config) (k : Nat) (v : Voice) : advances c (k + 1) v = advanceVoice c (advances c k v) := by
  induction k generalizing v with
  | zero => rfl
  | succ k ih => exact ih (advanceVoice c v)

/-- Settles O57: in Sustain a tick is the phase advance alone, and the increments add up modulo 2^32. -/
theorem sustainHoldsTheLevel : Obligations.SustainHoldsTheLevel := by
  unfold Obligations.SustainHoldsTheLevel
  intro c v k hm hsus
  induction k with
  | zero => simp [advances]
  | succ k ih =>
    have hstep := advanceVoice_untimed (c := c) (v := { v with phase := v.phase + BitVec.ofNat 32 k * v.inc }) hm
      (by simp [hsus, EnvState.timed])
    rw [advances_succ, ih, hstep]
    simp only [melodicPhase, trunc32_add, BitVec.ofNat_add, BitVec.add_mul, BitVec.add_assoc, BitVec.one_mul]

/-- `w` stands where `v`, in a timed state, stands after `k` ticks of its segment. -/
structure Voice.InSegment (v : Voice) (k : Nat) (w : Voice) : Prop where
  melodic : w.melodic = true
  actRef : w.actRef = v.actRef
  envState : w.envState = v.envState
  envInc : w.envInc = v.envInc
  envLevel : (w.envLevel.toNat : Int) = v.envLevel.toNat + k * v.envInc.toInt
  envCount : w.envCount.toNat = v.envCount.toNat - k
  envelopeOk : w.EnvelopeOk

/-- Before the count is used up, each tick moves the level by the increment and the count by one (42_envelope.md
R170). -/
theorem advances_inSegment (hm : v.melodic = true) (ht : v.envState.timed = true) (henv : v.EnvelopeOk) {k : Nat}
    (hk : k < v.envCount.toNat) : v.InSegment k (advances c k v) := by
  induction k with
  | zero => exact ⟨hm, rfl, rfl, rfl, by simp [advances], rfl, henv⟩
  | succ k ih =>
    obtain ⟨hm', hact, hstate, hinc, hlevel, hcount, henv'⟩ := ih (by omega)
    rw [advances_succ]
    generalize advances c k v = w at *
    have ht' : w.envState.timed = true := hstate ▸ ht
    have hmore : w.envCount.toNat ≠ 1 := by omega
    have henvp : (melodicPhase w).EnvelopeOk := henv'
    have hlevel' := envCountDown_envLevel henvp ht'
    have hcount' := envCountDown_envCount henvp ht'
    rw [advanceVoice_within hm' ht' hmore]
    refine ⟨hm', hact, hstate, hinc, hlevel'.trans ?_, hcount'.trans ?_, envCountDown_envelopeOk henvp ht' hmore⟩
    · simp only [melodicPhase]
      rw [hlevel, hinc]
      push_cast
      ring
    · simp only [melodicPhase]
      omega

/-- Settles O24: inside the segment by `advances_inSegment`, and its last tick is the tick after that. -/
theorem envelopeSegmentLastsItsCount : Obligations.EnvelopeSegmentLastsItsCount := by
  unfold Obligations.EnvelopeSegmentLastsItsCount
  intro c v i h hm ht hi
  have hpos := h.envelopeOk.one_le_count ht
  have hseg (k : Nat) (hk : k < v.envCount.toNat) : v.InSegment k (advances c k v) :=
    advances_inSegment hm ht h.envelopeOk hk
  refine ⟨fun k hk => ⟨(hseg k hk).envState, (Voice.melodic_iff.1 (hseg k hk).melodic).1, (hseg k hk).envLevel,
    (hseg k hk).envCount⟩, ?_⟩
  obtain ⟨hm', hact, hstate, -, -, hcount, -⟩ := hseg (v.envCount.toNat - 1) (by omega)
  obtain ⟨hplay, -⟩ := Voice.melodic_iff.1 hm'
  rw [show advances c v.envCount.toNat v = advanceVoice c (advances c (v.envCount.toNat - 1) v) by
    rw [← advances_succ, Nat.sub_add_cancel hpos]]
  generalize advances c (v.envCount.toNat - 1) v = w at *
  have ht' : w.envState.timed = true := hstate ▸ ht
  rw [advanceVoice_last hm' ht' (by omega), hact, instrument_of_getElem c hi, ← hstate]
  refine ⟨envLeave_leftTo (v := envCountDown (melodicPhase w)) ht', ?playing⟩
  case playing => simp [envLeave_playing, envCountDown, melodicPhase, hplay]

/-- `w` is the drum voice `v` after `k` ticks from phase 0: it plays while the sum of the increments is before the
end, and its phase is that sum as long as it plays. -/
structure Voice.DrumAfter (v : Voice) (k : Nat) (w : Voice) : Prop where
  perc : w.perc = v.perc
  inc : w.inc = v.inc
  endIdx : w.endIdx = v.endIdx
  playing : w.playing = true ↔ k * v.inc.toNat < v.endIdx.toNat * 65536
  phase : w.playing = true → w.phase.toNat = k * v.inc.toNat

theorem advances_drumAfter (hp : v.percussive = true) (hphase : v.phase = 0) (hend : 1 ≤ v.endIdx.toNat) (k : Nat) :
    v.DrumAfter k (advances c k v) := by
  obtain ⟨hplay, hperc⟩ := Voice.percussive_iff.1 hp
  induction k with
  | zero => exact ⟨rfl, rfl, rfl, iff_of_true hplay (by omega), fun _ => by simp [advances, hphase]⟩
  | succ k ih =>
    obtain ⟨hperc', hinc, hidx, hplaying, hsum⟩ := ih
    rw [advances_succ]
    generalize advances c k v = w at *
    have hnext : (k + 1) * v.inc.toNat = k * v.inc.toNat + v.inc.toNat := Nat.succ_mul _ _
    cases hw : w.playing with
    | false =>
      have hpast : ¬ k * v.inc.toNat < v.endIdx.toNat * 65536 := by simp [← hplaying, hw]
      rw [advanceVoice_silent c hw]
      exact ⟨hperc', hinc, hidx, iff_of_false (ne_true_of_eq_false hw) (by omega),
        fun h => absurd h (ne_true_of_eq_false hw)⟩
    | true =>
      have hsum := hsum hw
      rw [advanceVoice_percussive (Voice.percussive_iff.2 ⟨hw, hperc'.trans hperc⟩)]
      have hiff : (percussionAdvance w).playing = true ↔
          (w.phase.toNat + w.inc.toNat) / 65536 < w.endIdx.toNat := by simp [percussionAdvance_playing, hw]
      refine ⟨hperc', hinc, hidx, hiff.trans ?_, fun h => (percussionAdvance_phase (hiff.1 h)).trans ?_⟩
      · rw [hsum, hinc, hidx, hnext, Nat.div_lt_iff_lt_mul (by decide)]
      · rw [hsum, hinc, hnext]

/-- Settles O27: the untruncated sum decides when the voice stops, and a voice that has stopped stays. -/
theorem percussionPlaysOnce : Obligations.PercussionPlaysOnce := by
  unfold Obligations.PercussionPlaysOnce
  intro c v k hp hphase hend
  have hafter : v.DrumAfter k (advances c k v) := advances_drumAfter hp hphase hend k
  exact ⟨hafter.playing, hafter.phase⟩

end Advances

end Sys2Proof.Machine
end

/-! SUPPORT. What each score command can make of a state (40_score_interpreter.md R103 to R112): one relation that
lists every outcome, and the results of the note commands on a voice in range. -/

section
namespace Sys2Proof.Machine

open Sys2Proof.Claims

/-! Both forms of NOTEON at once. -/

/-- `i` is a NOTEON for voice `u` and note `n`: `k` bytes long, with velocity `vel` (30_encoding.md R84). -/
inductive IsNoteOn (c : Config) (u : BitVec 4) (n : Byte) : Instr → Nat → Byte → Prop where
  | short : IsNoteOn c u n (.noteOn u n) 2 (defaultVelocity c)
  | long (vel : Byte) : IsNoteOn c u n (.noteOnVel u n vel) 3 vel

/-- The outcomes of a command on a voice that leave the rest of the block alone: what becomes of record `v`. -/
inductive VoiceEffect (c : Config) (v : Voice) : Voice → Prop where
  | noteOff : VoiceEffect c v (noteOffVoice c v)
  | select {id k : Byte} (hk : patchOf c id = some k) : VoiceEffect c v { v with instrSel := k }
  | drum {n d : Byte} (vel : Byte) (hd : drumOf c n = some d) : VoiceEffect c v (percussionOn c d vel v)

/-- Every outcome of a score command (40_score_interpreter.md R103 to R112). -/
inductive Executes (s : State) : Instr → State → Prop where
  | wait (ms : BitVec 15) : Executes s (.wait ms) ((s.advance 2).setWait (waitToTicks s.cfg ms)).returnFromStep
  | stop (x : BitVec 4) : Executes s (.stop x) (s.advance 1).haltScore.returnFromStep
  | restart (x : BitVec 4) : Executes s (.restart x) (s.jump s.startPtr)
  | skip (i : Instr) (k : Nat) : Executes s i (s.advance k)
  | effect (i : Instr) (k : Nat) {u : Nat} {v w : Voice} (hu : u < s.nv.toNat) (hv : s.voices[u]? = some v)
      (hw : VoiceEffect s.cfg v w) : Executes s i ((s.advance k).setVoice u w)
  | melodic {i : Instr} {u : BitVec 4} {n : Byte} {k : Nat} {vel : Byte} {v : Voice} (hi : IsNoteOn s.cfg u n i k vel)
      (hn : n.toNat < 128) (hu : u.toNat < s.nv.toNat) (hv : s.voices[u.toNat]? = some v) :
      Executes s i (((s.advance k).setLfsr (lfsrNext s.lfsr)).setVoice u.toNat
        (melodicOn s.cfg n vel (lfsrNext s.lfsr) v))

theorem State.inRange_iff {s : State} {u : BitVec 4} : s.inRange u = true ↔ u.toNat < s.nv.toNat :=
  decide_eq_true_iff

theorem State.inRange_eq_true {s : State} {u : BitVec 4} (h : u.toNat < s.nv.toNat) : s.inRange u = true :=
  State.inRange_iff.2 h

theorem isPercussion_eq_false {n : Byte} (h : n.toNat < 128) : isPercussion n = false :=
  decide_eq_false (Nat.not_le.2 h)

section NoteOn

variable {s : State} {u : BitVec 4} {n : Byte} {i : Instr} {k : Nat} {vel : Byte}

theorem exec_noteOn_inRange (hi : IsNoteOn s.cfg u n i k vel) (hu : u.toNat < s.nv.toNat) :
    exec i s = .next ((s.advance k).noteOn u.toNat n vel) := by
  cases hi <;> exact congrArg _ (if_pos (State.inRange_eq_true hu))

theorem exec_isNoteOn_outOfRange (hi : IsNoteOn s.cfg u n i k vel) (hu : s.nv.toNat ≤ u.toNat) :
    exec i s = .next (s.advance k) := by
  cases hi with
  | short => exact exec_noteOn_outOfRange hu n
  | long vel => exact exec_noteOnVel_outOfRange hu n vel

theorem exec_noteOn_executes (hi : IsNoteOn s.cfg u n i k vel) : ∃ t, exec i s = .next t ∧ Executes s i t := by
  by_cases hu : u.toNat < s.nv.toNat
  · refine ⟨_, exec_noteOn_inRange hi hu, ?_⟩
    obtain ⟨-, h⟩ | ⟨v, hv, ⟨-, -, h⟩ | ⟨d, -, hd, h⟩ | ⟨hn, h⟩⟩ :=
      (s.advance k).noteOn_cases u.toNat n vel <;> rw [h]
    · exact .skip i k
    · exact .skip i k
    · exact .effect i k hu hv (.drum vel hd)
    · have hmelodic : n.toNat < 128 := by simpa [isPercussion] using hn
      exact .melodic hi hmelodic hu hv
  · exact ⟨_, exec_isNoteOn_outOfRange hi (Nat.not_lt.1 hu), .skip i k⟩

end NoteOn

section Results

variable {s : State} {u : BitVec 4}

theorem exec_noteOff_inRange (hu : u.toNat < s.nv.toNat) :
    exec (.noteOff u) s = .next ((s.advance 1).noteOff u.toNat) :=
  congrArg _ (if_pos (State.inRange_eq_true hu))

theorem exec_instr_unmapped (u : BitVec 4) {id : Byte} (hid : patchOf s.cfg id = none) :
    exec (.instr u id) s = .next (s.advance 2) := by
  simp [exec, execInstr, hid]

theorem exec_instr_inRange (hu : u.toNat < s.nv.toNat) {id k : Byte} (hid : patchOf s.cfg id = some k) :
    exec (.instr u id) s = .next ((s.advance 2).selectInstrument u.toNat k) := by
  simp [exec, execInstr, State.inRange_eq_true hu, hid]

theorem exec_wait (ms : BitVec 15) (s : State) :
    exec (.wait ms) s = .next ((s.advance 2).setWait (waitToTicks s.cfg ms)).returnFromStep := rfl
theorem exec_stop (x : BitVec 4) (s : State) :
    exec (.stop x) s = .next (s.advance 1).haltScore.returnFromStep := rfl
theorem exec_restart (x : BitVec 4) (s : State) : exec (.restart x) s = .next (s.jump s.startPtr) := rfl

theorem exec_noteOff_executes (u : BitVec 4) (s : State) :
    ∃ t, exec (.noteOff u) s = .next t ∧ Executes s (.noteOff u) t := by
  by_cases hu : u.toNat < s.nv.toNat
  · refine ⟨_, exec_noteOff_inRange hu, ?_⟩
    obtain ⟨-, h⟩ | ⟨v, hv, h⟩ := (s.advance 1).noteOff_cases u.toNat <;> rw [h]
    · exact .skip _ 1
    · exact .effect _ 1 hu hv .noteOff
  · exact ⟨_, exec_noteOff_outOfRange (Nat.not_lt.1 hu), .skip _ 1⟩

theorem exec_instr_executes (u : BitVec 4) (id : Byte) (s : State) :
    ∃ t, exec (.instr u id) s = .next t ∧ Executes s (.instr u id) t := by
  by_cases hu : u.toNat < s.nv.toNat
  · cases hid : patchOf s.cfg id with
    | none => exact ⟨_, exec_instr_unmapped u hid, .skip _ 2⟩
    | some k =>
      refine ⟨_, exec_instr_inRange hu hid, ?_⟩
      obtain ⟨-, h⟩ | ⟨v, hv, h⟩ := (s.advance 2).selectInstrument_cases u.toNat k <;> rw [h]
      · exact .skip _ 2
      · exact .effect _ 2 hu hv (.select hid)
  · exact ⟨_, exec_instr_outOfRange (Nat.not_lt.1 hu) id, .skip _ 2⟩

end Results

/-- Every command completes, in one of the ways `Executes` lists. -/
theorem exec_executes (i : Instr) (s : State) : ∃ t, exec i s = .next t ∧ Executes s i t := by
  cases i with
  | wait ms => exact ⟨_, exec_wait ms s, .wait ms⟩
  | noteOff u => exact exec_noteOff_executes u s
  | noteOn u n => exact exec_noteOn_executes .short
  | noteOnVel u n vel => exact exec_noteOn_executes (.long vel)
  | rsvdA x => exact ⟨_, exec_rsvdA x s, .skip _ 1⟩
  | rsvdB x => exact ⟨_, exec_rsvdB x s, .skip _ 1⟩
  | instr u id => exact exec_instr_executes u id s
  | rsvdD x => exact ⟨_, exec_rsvdD x s, .skip _ 1⟩
  | restart x => exact ⟨_, exec_restart x s, .restart x⟩
  | stop x => exact ⟨_, exec_stop x s, .stop x⟩

theorem executes_of_exec {i : Instr} {s t : State} (h : exec i s = .next t) : Executes s i t := by
  obtain ⟨t', hexec, hres⟩ := exec_executes i s
  obtain rfl : t' = t := Host.Outcome.next.inj (hexec.symm.trans h)
  exact hres

/-! What no command writes. -/

/-- The score memory itself is untouched, and so is every register only START writes (45_control_surface.md R221). -/
theorem Executes.score_eq {i : Instr} {s t : State} (h : Executes s i t) : t.score = s.score := by
  cases h <;> rfl

theorem Executes.sameControl {i : Instr} {s t : State} (h : Executes s i t) : SameControl s t := by
  cases h <;> exact ⟨rfl, rfl, rfl, rfl, rfl, rfl, rfl, rfl, fun _ => rfl⟩

theorem Executes.cfg_eq {i : Instr} {s t : State} (h : Executes s i t) : t.cfg = s.cfg := by
  cases h <;> rfl

theorem Executes.out_eq {i : Instr} {s t : State} (h : Executes s i t) : t.out = s.out := by
  cases h <;> rfl

theorem Executes.script_eq {i : Instr} {s t : State} (h : Executes s i t) : t.script = s.script := by
  cases h <;> rfl

theorem Executes.scorePlaying {i : Instr} {s t : State} (h : Executes s i t) (hplay : t.scorePlaying = true) :
    s.scorePlaying = true := by
  cases h with
  | stop x => exact absurd hplay Bool.false_ne_true
  | _ => exact hplay

theorem Executes.lfsr {i : Instr} {s t : State} (h : Executes s i t) :
    t.lfsr = s.lfsr ∨
      t.lfsr = lfsrNext s.lfsr ∧ ∃ u n, n.toNat < 128 ∧ (i = .noteOn u n ∨ ∃ vel, i = .noteOnVel u n vel) := by
  cases h with
  | @melodic _ u n _ vel _ hi hn =>
    refine .inr ⟨rfl, u, n, hn, ?_⟩
    cases hi with
    | short => exact .inl rfl
    | long vel => exact .inr ⟨vel, rfl⟩
  | _ => exact .inl rfl

theorem setVoice_otherVoices (s : State) (u : Nat) (w : Voice) : OtherVoices u s (s.setVoice u w) :=
  fun _ hne => List.getElem?_set_ne hne.symm

/-- A note-off of silent voices changes none of them. -/
theorem map_noteOffVoice_of_silent (c : Config) {vs : List Voice} {k u : Nat}
    (hsilent : ∀ v ∈ vs.drop k, v.playing = false) (hu : k ≤ u) : (vs.map (noteOffVoice c))[u]? = vs[u]? := by
  rw [List.getElem?_map]
  cases hv : vs[u]? with
  | none => rfl
  | some v =>
    have hmem : v ∈ vs.drop k :=
      List.mem_of_getElem? (i := u - k) (by rw [List.getElem?_drop, Nat.add_sub_cancel' hu, hv])
    exact congrArg some (noteOffVoice_of_silent c (hsilent v hmem))

theorem Executes.voices_above {i : Instr} {s t : State} (h : Executes s i t)
    (hsilent : ∀ v ∈ s.voices.drop s.nv.toNat, v.playing = false) {u : Nat} (hu : s.nv.toNat ≤ u) :
    t.voices[u]? = s.voices[u]? := by
  cases h with
  | wait | restart | skip => rfl
  | stop x => exact map_noteOffVoice_of_silent s.cfg hsilent hu
  | effect i k hlt => exact setVoice_otherVoices (s.advance k) _ _ u (by omega)
  | @melodic i _ n k vel v hi hn hlt =>
    exact setVoice_otherVoices ((s.advance k).setLfsr (lfsrNext s.lfsr)) _ _ u (by omega)

/-- Settles O18: each clause by the outcomes a command has. -/
theorem scoreCannotTouchControl : Obligations.ScoreCannotTouchControl := by
  unfold Obligations.ScoreCannotTouchControl
  intro i s t hexec
  have h := executes_of_exec hexec
  refine ⟨h.sameControl, h.scorePlaying, fun hne => ?lfsr, fun hsilent u hu => h.voices_above hsilent hu⟩
  case lfsr =>
    obtain heq | ⟨-, hnote⟩ := h.lfsr
    · exact absurd heq hne
    · exact hnote

/-! The cursor, and STEP's return (40_score_interpreter.md R112). -/

theorem State.returnFromStep_returned {s t : State} (h : t.activity = s.activity) : Returned s t.returnFromStep :=
  ⟨fun hs => t.returnFromStep_start (h.trans hs), fun i hs => t.returnFromStep_tick i (h.trans hs),
    fun hs => (t.returnFromStep_elsewhere fun c hc => hs c (h.symm.trans hc)).trans h⟩

/-- Settles O8: the ticks are the exact quotient and the rest is the frame of `returnFromStep`. -/
theorem waitLoadsTheCountdown : Obligations.WaitLoadsTheCountdown := by
  unfold Obligations.WaitLoadsTheCountdown
  intro ms s
  exact ⟨_, exec_wait ms s, waitToTicks_toNat s.cfg ms, rfl, State.returnFromStep_returned rfl, rfl, rfl, rfl,
    (Executes.wait ms).sameControl⟩

/-- Settles O15: the halt of the score, and STEP's return. -/
theorem stopHaltsTheScore : Obligations.StopHaltsTheScore := by
  unfold Obligations.StopHaltsTheScore
  intro x s
  exact ⟨_, exec_stop x s, rfl, rfl, rfl, State.returnFromStep_returned rfl, List.length_map _,
    fun u v hv => State.haltScore_notedOff (s.advance 1) hv, rfl, (Executes.stop x).sameControl⟩

theorem State.noteOn_cursor (s : State) (u : Nat) (n vel : Byte) : (s.noteOn u n vel).cursor = s.cursor := by
  obtain ⟨-, h⟩ | ⟨v, -, ⟨-, -, h⟩ | ⟨d, -, -, h⟩ | ⟨-, h⟩⟩ := s.noteOn_cases u n vel <;> simp [h]

theorem State.noteOff_cursor (s : State) (u : Nat) : (s.noteOff u).cursor = s.cursor := by
  obtain ⟨-, h⟩ | ⟨v, -, h⟩ := s.noteOff_cases u <;> simp [h]

theorem State.selectInstrument_cursor (s : State) (u : Nat) (k : Byte) :
    (s.selectInstrument u k).cursor = s.cursor := by
  obtain ⟨-, h⟩ | ⟨v, -, h⟩ := s.selectInstrument_cases u k <;> simp [h]

/-- Every command that names a voice passes over its bytes, in range or not (40_score_interpreter.md R103). -/
theorem exec_noteOn_cursor {s : State} {u : BitVec 4} {n vel : Byte} {i : Instr} {k : Nat}
    (hi : IsNoteOn s.cfg u n i k vel) :
    ∃ t, exec i s = .next t ∧ t.cursor = s.cursor + BitVec.ofNat 32 k ∧ t.activity = s.activity := by
  by_cases hu : u.toNat < s.nv.toNat
  · obtain ⟨hact, -⟩ := (s.advance k).noteOn_sameProgress u.toNat n vel
    exact ⟨_, exec_noteOn_inRange hi hu, State.noteOn_cursor _ _ _ _, hact⟩
  · exact ⟨_, exec_isNoteOn_outOfRange hi (Nat.not_lt.1 hu), rfl, rfl⟩

theorem exec_noteOff_cursor (u : BitVec 4) (s : State) :
    ∃ t, exec (.noteOff u) s = .next t ∧ t.cursor = s.cursor + 1 ∧ t.activity = s.activity := by
  by_cases hu : u.toNat < s.nv.toNat
  · obtain ⟨hact, -⟩ := (s.advance 1).noteOff_sameProgress u.toNat
    exact ⟨_, exec_noteOff_inRange hu, State.noteOff_cursor _ _, hact⟩
  · exact ⟨_, exec_noteOff_outOfRange (Nat.not_lt.1 hu), rfl, rfl⟩

theorem exec_instr_cursor (u : BitVec 4) (id : Byte) (s : State) :
    ∃ t, exec (.instr u id) s = .next t ∧ t.cursor = s.cursor + 2 ∧ t.activity = s.activity := by
  by_cases hu : u.toNat < s.nv.toNat
  · cases hid : patchOf s.cfg id with
    | none => exact ⟨_, exec_instr_unmapped u hid, rfl, rfl⟩
    | some k =>
      obtain ⟨hact, -⟩ := (s.advance 2).selectInstrument_sameProgress u.toNat k
      exact ⟨_, exec_instr_inRange hu hid, State.selectInstrument_cursor _ _ _, hact⟩
  · exact ⟨_, exec_instr_outOfRange (Nat.not_lt.1 hu) id, rfl, rfl⟩

/-- Settles O17: command by command. -/
theorem cursorAfterEachCommand : Obligations.CursorAfterEachCommand := by
  unfold Obligations.CursorAfterEachCommand
  intro s
  exact ⟨fun ms => ⟨_, exec_wait ms s, rfl, State.returnFromStep_returned rfl⟩,
    fun u n => exec_noteOn_cursor (u := u) (n := n) .short,
    fun u n vel => exec_noteOn_cursor (u := u) (n := n) (.long vel),
    fun u => exec_noteOff_cursor u s,
    fun u id => exec_instr_cursor u id s,
    fun x => ⟨_, exec_restart x s, rfl, rfl⟩,
    fun x => ⟨_, exec_stop x s, rfl, State.returnFromStep_returned rfl, rfl⟩,
    fun x => ⟨_, exec_rsvdA x s, rfl, rfl⟩,
    fun x => ⟨_, exec_rsvdB x s, rfl, rfl⟩,
    fun x => ⟨_, exec_rsvdD x s, rfl, rfl⟩⟩

theorem State.jump_onlyCursor (s : State) (a : Word) : OnlyCursor s (s.jump a) a := by
  simp [OnlyCursor, SameControl]

/-- Settles O14: a jump, after which the bytes at the cursor are those at `start_ptr`. -/
theorem restartGoesToStartPtr : Obligations.RestartGoesToStartPtr := by
  unfold Obligations.RestartGoesToStartPtr
  intro x s
  exact ⟨_, exec_restart x s, s.jump_onlyCursor s.startPtr,
    fun c i rest hc hdec => step_of_decode (s := s.jump s.startPtr) hc hdec⟩

/-! Notes on a voice in range. -/

section Notes

variable {s : State}

/-- A note-on of a drum that is not there is ignored (41_voice_oscillator.md R133). -/
theorem drumOf_eq_none {c : Config} {n : Byte}
    (h : c.params.percussionEn = false ∨ c.params.drumMap[n.toNat - 128]? = some 0xFF#8) : drumOf c n = none := by
  obtain hoff | hnone := h
  · simp [drumOf, hoff]
  · simp [drumOf, hnone]

theorem State.noteOn_ignored {u : Nat} {n : Byte} (vel : Byte) (hn : isPercussion n = true)
    (hd : drumOf s.cfg n = none) : s.noteOn u n vel = s := by
  obtain ⟨-, h⟩ | ⟨v, -, ⟨-, -, h⟩ | ⟨d, -, hsome, -⟩ | ⟨hmelodic, -⟩⟩ := s.noteOn_cases u n vel
  · exact h
  · exact h
  · exact absurd (hd.symm.trans hsome) (Option.some_ne_none d).symm
  · exact absurd hn (ne_true_of_eq_false hmelodic)

theorem exec_noteOn_ignored {u : BitVec 4} {n vel : Byte} {i : Instr} {k : Nat} (hi : IsNoteOn s.cfg u n i k vel)
    (h : s.nv.toNat ≤ u.toNat ∨ (128 ≤ n.toNat ∧
      (s.cfg.params.percussionEn = false ∨ s.cfg.params.drumMap[n.toNat - 128]? = some 0xFF#8))) :
    exec i s = .next (s.advance k) := by
  by_cases hu : u.toNat < s.nv.toNat
  · obtain hout | ⟨hn, hnone⟩ := h
    · exact absurd hu (Nat.not_lt.2 hout)
    · rw [exec_noteOn_inRange hi hu,
        State.noteOn_ignored (s := s.advance k) vel ((isPercussion_iff n).2 hn) (drumOf_eq_none hnone)]
  · exact exec_isNoteOn_outOfRange hi (Nat.not_lt.1 hu)

/-- Settles O11: each cause leaves the advance over the command's bytes alone. -/
theorem ignoredNoteOnMovesOnlyTheCursor : Obligations.IgnoredNoteOnMovesOnlyTheCursor := by
  unfold Obligations.IgnoredNoteOnMovesOnlyTheCursor
  intro u n vel s h
  exact ⟨⟨_, exec_noteOn_ignored .short h, s.advance_onlyCursor 2⟩,
    ⟨_, exec_noteOn_ignored (.long vel) h, s.advance_onlyCursor 3⟩⟩

variable {u : Nat} {v : Voice}

theorem State.noteOn_melodic (hv : s.voices[u]? = some v) {n : Byte} (hn : n.toNat < 128) (vel : Byte) :
    s.noteOn u n vel = (s.setLfsr (lfsrNext s.lfsr)).setVoice u (melodicOn s.cfg n vel (lfsrNext s.lfsr) v) := by
  simp [State.noteOn, hv, isPercussion_eq_false hn]

theorem State.noteOn_drum (hv : s.voices[u]? = some v) {n d : Byte} (hn : 128 ≤ n.toNat)
    (hd : drumOf s.cfg n = some d) (vel : Byte) : s.noteOn u n vel = s.setVoice u (percussionOn s.cfg d vel v) := by
  simp [State.noteOn, hv, (isPercussion_iff n).2 hn, hd]

theorem State.noteOff_of_voice (hv : s.voices[u]? = some v) :
    s.noteOff u = s.setVoice u (noteOffVoice s.cfg v) := by
  simp [State.noteOff, hv]

theorem State.selectInstrument_of_voice (hv : s.voices[u]? = some v) (k : Byte) :
    s.selectInstrument u k = s.setVoice u { v with instrSel := k } := by
  simp [State.selectInstrument, hv]

theorem State.setVoice_getElem? (hv : s.voices[u]? = some v) (w : Voice) : (s.setVoice u w).voices[u]? = some w := by
  obtain ⟨hlt, -⟩ := List.getElem?_eq_some_iff.1 hv
  exact List.getElem?_set_self hlt

/-- The generator's value fits the integer part of the phase (41_voice_oscillator.md R132). -/
theorem startPhase_toNat (l : BitVec 8) : (trunc32 (l.toNat * 2 ^ 24)).toNat = l.toNat * 2 ^ 24 := by
  have hl := l.isLt
  rw [trunc32, BitVec.toNat_ofNat, Nat.mod_eq_of_lt (by omega)]

theorem envStart_begins {c : Config} {w : Voice} {i : Instrument} (hen : c.params.envelopeEn = true)
    (hi : c.params.instr[w.actRef.toNat]? = some i) : EnvelopeBegins i (envStart c w) := by
  rw [envStart, if_pos hen, instrument_of_getElem c hi]
  exact envEnterDelay_begins i w

theorem envStart_of_noEnvelope {c : Config} (hen : c.params.envelopeEn = false) (w : Voice) :
    envStart c w = envFullScale w := if_neg (ne_true_of_eq_false hen)

/-- A melodic note-on sets up the voice as R132 says. -/
theorem melodicOn_begun (hv : s.voices[u]? = some v) (n vel : Byte) (k : Nat) :
    MelodicBegun s (((s.advance k).setLfsr (lfsrNext s.lfsr)).setVoice u
      (melodicOn s.cfg n vel (lfsrNext s.lfsr) v)) u n vel v := by
  obtain ⟨-, -, -, ⟨hrange, -⟩, -⟩ := ranges s.cfg
  refine ⟨rfl, rfl, rfl, rfl, ⟨rfl, rfl, rfl, rfl, rfl, rfl, rfl, rfl, fun _ => rfl⟩,
    setVoice_otherVoices _ u _, _, noteFreq s.cfg (clampNote s.cfg n), State.setVoice_getElem? (s := (s.advance k).setLfsr _) hv _,
    ?freq, by simp [melodicOn], by simp [melodicOn], by simp [melodicOn], by simp [melodicOn], ?inc, ?phase,
    ?scale, by simp [melodicOn], ?envelope, ?full⟩
  case freq =>
    rw [← clampNat_eq_max _ hrange]
    exact noteFreq_of_clamped s.cfg n
  case inc => simpa [melodicOn, noteInc] using increment_toNat s.cfg (noteFreq_lt s.cfg _)
  case phase => simpa [melodicOn] using startPhase_toNat (lfsrNext s.lfsr)
  case scale => simpa [melodicOn] using velocityScale_toNat vel
  case envelope => exact fun hen i hi => envStart_begins hen hi
  case full =>
    intro hen
    rw [melodicOn, envStart_of_noEnvelope hen]
    exact ⟨rfl, toU32_envFull, rfl, rfl⟩

theorem exec_noteOn_melodic {u : BitVec 4} {n vel : Byte} {i : Instr} {k : Nat} (hi : IsNoteOn s.cfg u n i k vel)
    (hu : u.toNat < s.nv.toNat) (hv : s.voices[u.toNat]? = some v) (hn : n.toNat < 128) :
    ∃ t, exec i s = .next t ∧ t.cursor = s.cursor + BitVec.ofNat 32 k ∧ MelodicBegun s t u.toNat n vel v := by
  rw [exec_noteOn_inRange hi hu, State.noteOn_melodic (s := s.advance k) hv hn vel]
  exact ⟨_, rfl, rfl, melodicOn_begun hv n vel k⟩

/-- Settles O9: both forms run the same note-on. -/
theorem melodicNoteOnBeginsTheNote : Obligations.MelodicNoteOnBeginsTheNote := by
  unfold Obligations.MelodicNoteOnBeginsTheNote
  intro u n vel s v hu hv hn
  exact ⟨exec_noteOn_melodic .short hu hv hn, exec_noteOn_melodic (.long vel) hu hv hn⟩

theorem drumOf_eq_some {c : Config} {n d : Byte} (hen : c.params.percussionEn = true)
    (hmap : c.params.drumMap[n.toNat - 128]? = some d) (hd : d ≠ 0xFF#8) : drumOf c n = some d := by
  simp [drumOf, hen, hmap, hd]

/-- A percussion note-on sets up the voice as R133 says. -/
theorem percussionOn_begun (hv : s.voices[u]? = some v) {n d : Byte} (hd : drumOf s.cfg n = some d) {r : Drum}
    (hr : s.cfg.params.drum[d.toNat]? = some r) (vel : Byte) (k : Nat) :
    DrumBegun s ((s.advance k).setVoice u (percussionOn s.cfg d vel v)) u d r vel v := by
  have hrow := drum_of_getElem s.cfg hr
  obtain ⟨-, -, hfreq⟩ := drum_ok s.cfg (drumOf_lt s.cfg hd)
  refine ⟨rfl, rfl, rfl, rfl, ⟨rfl, rfl, rfl, rfl, rfl, rfl, rfl, rfl, fun _ => rfl⟩,
    setVoice_otherVoices _ u _, _, State.setVoice_getElem? (s := s.advance k) hv _, rfl, rfl, rfl, rfl, ?inc, rfl,
    ?endIdx, velocityScale_toNat vel, rfl, rfl, rfl, rfl⟩
  case inc =>
    rw [← hrow]
    exact increment_toNat s.cfg hfreq
  case endIdx => rw [← hrow]; rfl

theorem exec_noteOn_drum {u : BitVec 4} {n d vel : Byte} {i : Instr} {k : Nat} (hi : IsNoteOn s.cfg u n i k vel)
    (hu : u.toNat < s.nv.toNat) (hv : s.voices[u.toNat]? = some v) (hn : 128 ≤ n.toNat)
    (hd : drumOf s.cfg n = some d) {r : Drum} (hr : s.cfg.params.drum[d.toNat]? = some r) :
    ∃ t, exec i s = .next t ∧ t.cursor = s.cursor + BitVec.ofNat 32 k ∧ DrumBegun s t u.toNat d r vel v := by
  rw [exec_noteOn_inRange hi hu, State.noteOn_drum (s := s.advance k) hv hn hd vel]
  exact ⟨_, rfl, rfl, percussionOn_begun hv hd hr vel k⟩

/-- Settles O10: both forms run the same note-on. -/
theorem percussionNoteOnBeginsTheDrum : Obligations.PercussionNoteOnBeginsTheDrum := by
  unfold Obligations.PercussionNoteOnBeginsTheDrum
  intro u n vel d s v r hu hv hn hen hmap hne hr
  have hd := drumOf_eq_some hen hmap hne
  exact ⟨exec_noteOn_drum .short hu hv hn hd hr, exec_noteOn_drum (.long vel) hu hv hn hd hr⟩

/-- Settles O12: out of range the cursor moves alone; in range the voice is note-offed as R135 says. -/
theorem noteOffReleasesOrSilences : Obligations.NoteOffReleasesOrSilences := by
  unfold Obligations.NoteOffReleasesOrSilences
  refine fun u s => ⟨fun hu => ⟨_, exec_noteOff_outOfRange hu, s.advance_onlyCursor 1⟩, fun v hu hv => ?inRange⟩
  case inRange =>
    rw [exec_noteOff_inRange hu, State.noteOff_of_voice (s := s.advance 1) hv]
    exact ⟨_, _, rfl, rfl, State.setVoice_getElem? (s := s.advance 1) hv _, noteOffVoice_notedOff s.cfg v,
      setVoice_otherVoices (s.advance 1) _ _, rfl, rfl, rfl, rfl,
      (Executes.effect (.noteOff u) 1 hu hv .noteOff).sameControl⟩

/-- Settles O13: an id of 0 to 127 has an entry in PATCH_MAP, and every other one is ignored. -/
theorem instrSelectsForTheNextNote : Obligations.InstrSelectsForTheNextNote := by
  unfold Obligations.InstrSelectsForTheNextNote
  refine fun u id s => ⟨fun hignored => ⟨s.advance 2, ?ignored, s.advance_onlyCursor 2⟩, fun v hu hv hid => ?inRange⟩
  case ignored =>
    obtain hu | hid := hignored
    · exact exec_instr_outOfRange hu id
    · exact exec_instr_unmapped u (if_neg (Nat.not_lt.2 hid))
  case inRange =>
    obtain ⟨k, hk⟩ := Option.isSome_iff_exists.1 (patchOf_isSome s.cfg hid)
    have hmap : s.cfg.params.patchMap[id.toNat]? = some k := (if_pos hid).symm.trans hk
    rw [exec_instr_inRange hu hk, State.selectInstrument_of_voice (s := s.advance 2) hv]
    exact ⟨_, k, rfl, hmap, rfl, State.setVoice_getElem? (s := s.advance 2) hv _,
      setVoice_otherVoices (s.advance 2) _ _, rfl, rfl, rfl, rfl,
      (Executes.effect (.instr u id) 2 hu hv (.select hk)).sameControl⟩

end Notes

/-- Settles O49: the first bytes 0xE0 to 0xEF are RESTART, which leaves the cursor where it stands. -/
theorem restartAtStartPtrHangs : Obligations.RestartAtStartPtrHangs := by
  unfold Obligations.RestartAtStartPtrHangs
  intro s c k hc hcursor hlo hhi
  obtain ⟨-, -, -, -, -, -, -, hrestart, -⟩ := firstByteSelectsOneRow s.volPresent
    (s.score.read s.cursor) (s.score.read (s.cursor + 1)) (s.score.read (s.cursor + 2)) []
  have hstays : s.jump s.startPtr = s := by rw [← hcursor]; rfl
  have hstep := step_of_decode hc (hrestart (hcursor ▸ hlo) (hcursor ▸ hhi))
  rw [exec_restart, hstays] at hstep
  exact runsTo_self hstep k

end Sys2Proof.Machine
end

/-! SUPPORT. The numbers of the block: the generator's orbit, the interpolated read, the two scalings of a contribution,
the wait conversion and the attenuation table (41_voice_oscillator.md R136, R139 to R141; 43_mixer.md R181 to R190;
20_memory.md R68). -/

section
namespace Sys2Proof.Machine

open Sys2Proof.Claims

/-! The generator (41_voice_oscillator.md R136). -/

theorem lfsrNext_ne_zero {x : BitVec 8} (h : x ≠ 0) : lfsrNext x ≠ 0 := by
  revert x
  decide +kernel

theorem iterate_lfsrNext_ne_zero (k : Nat) : lfsrNext^[k] 0x01#8 ≠ 0 := by
  induction k with
  | zero => decide
  | succ k ih =>
    rw [Function.iterate_succ_apply']
    exact lfsrNext_ne_zero ih

/-- 0x01 comes back after 255 steps, and after no proper divisor of 255. -/
theorem minimalPeriod_lfsrNext : Function.minimalPeriod lfsrNext 0x01#8 = 255 := by
  have hback : Function.IsPeriodicPt lfsrNext 255 0x01#8 :=
    show lfsrNext^[255] 0x01#8 = 0x01#8 by decide +kernel
  have hproper : ∀ d ∈ Nat.properDivisors 255, lfsrNext^[d] 0x01#8 ≠ 0x01#8 := by
    rw [show Nat.properDivisors 255 = {1, 3, 5, 15, 17, 51, 85} by decide +kernel]
    decide +kernel
  by_contra hne
  have hdvd := hback.minimalPeriod_dvd
  have hlt : Function.minimalPeriod lfsrNext 0x01#8 < 255 := lt_of_le_of_ne (Nat.le_of_dvd (by decide) hdvd) hne
  exact hproper _ (Nat.mem_properDivisors.2 ⟨hdvd, hlt⟩) (Function.iterate_minimalPeriod)

/-- The 255 values before the return are distinct and not 0, so they are all the values that are not 0. -/
theorem exists_iterate_lfsrNext_eq {x : BitVec 8} (h : x ≠ 0) : ∃ k, k < 255 ∧ lfsrNext^[k] 0x01#8 = x := by
  have hinj : Set.InjOn (fun k => lfsrNext^[k] 0x01#8) (Finset.range 255) := by
    have hdistinct := Function.iterate_injOn_Iio_minimalPeriod (f := lfsrNext) (x := 0x01#8)
    rwa [minimalPeriod_lfsrNext, ← Finset.coe_range] at hdistinct
  have hall : (Finset.range 255).image (fun k => lfsrNext^[k] 0x01#8) = Finset.univ.erase 0 := by
    refine Finset.eq_of_subset_of_card_le (fun y hy => ?_) ?_
    · obtain ⟨k, -, rfl⟩ := Finset.mem_image.1 hy
      exact Finset.mem_erase.2 ⟨iterate_lfsrNext_ne_zero k, Finset.mem_univ _⟩
    · have hcard : Fintype.card (BitVec 8) = 256 :=
        (Fintype.card_congr (BitVec.equivFin (m := 8)).toEquiv).trans (Fintype.card_fin _)
      rw [Finset.card_image_of_injOn hinj, Finset.card_erase_of_mem (Finset.mem_univ _), Finset.card_univ, hcard,
        Finset.card_range]
  have hx : x ∈ (Finset.range 255).image (fun k => lfsrNext^[k] 0x01#8) :=
    hall ▸ Finset.mem_erase.2 ⟨h, Finset.mem_univ x⟩
  obtain ⟨k, hk, heq⟩ := Finset.mem_image.1 hx
  exact ⟨k, Finset.mem_range.1 hk, heq⟩

/-- Settles O19: the period of 0x01 is 255, the number of values that are not 0. -/
theorem generatorHasFullPeriod : Obligations.GeneratorHasFullPeriod := by
  unfold Obligations.GeneratorHasFullPeriod
  exact ⟨fun _ => lfsrNext_ne_zero, minimalPeriod_lfsrNext ▸ Function.iterate_minimalPeriod,
    fun _ => exists_iterate_lfsrNext_eq, by decide +kernel⟩

/-! Interpolation and the waveform read (41_voice_oscillator.md R139 to R141). -/

/-- The interpolated sample lies between its two samples. -/
theorem interp_between (s0 s1 : Sample) (fr : BitVec 16) :
    min s0.toInt s1.toInt ≤ interp s0 s1 fr ∧ interp s0 s1 fr ≤ max s0.toInt s1.toInt := by
  have hfr := fr.isLt
  obtain ⟨hlow, hhigh⟩ := mul_shift_between (s1.toInt - s0.toInt) fr.toNat 16 (by omega) (by omega)
  rw [interp]
  omega

/-- A fraction below 1 does not reach the second sample of a rising pair. -/
theorem interp_lt {s0 s1 : Sample} (fr : BitVec 16) (h : s0.toInt < s1.toInt) : interp s0 s1 fr < s1.toInt := by
  have hfr : (fr.toNat : Int) < 2 ^ 16 := by exact_mod_cast fr.isLt
  have hprod : (s1.toInt - s0.toInt) * fr.toNat < (s1.toInt - s0.toInt) * 2 ^ 16 :=
    mul_lt_mul_of_pos_left hfr (by omega)
  have hquot : asr ((s1.toInt - s0.toInt) * fr.toNat) 16 < s1.toInt - s0.toInt :=
    Int.ediv_lt_of_lt_mul (by decide) hprod
  rw [interp]
  omega

/-- Settles O20: the shifted product lies between the difference and 0. -/
theorem interpolationStaysBetween : Obligations.InterpolationStaysBetween := by
  unfold Obligations.InterpolationStaysBetween
  intro s0 s1 fr
  obtain ⟨hlow, hhigh⟩ := interp_between s0 s1 fr
  exact ⟨rfl, by simp [interp, asr], hlow, hhigh, interp_lt fr⟩

theorem waveSample_of_getElem {c : Config} {k i : Nat} {w : List Sample} {x : Sample}
    (hw : c.params.wave[k]? = some w) (hx : w[i]? = some x) : waveSample c k i = x := by
  simp [waveSample, hw, hx]

theorem drumSample_of_getElem {c : Config} {k i : Nat} {d : Drum} {x : Sample} (hd : c.params.drum[k]? = some d)
    (hx : d.data[i]? = some x) : drumSample c k i = x := by
  simp [drumSample, drum_of_getElem c hd, hx]

/-- The fields of a melodic phase (R140). -/
theorem melodic_phase_fields (p : Word) :
    (p.extractLsb' 24 8).toNat = p.toNat / 2 ^ 24 ∧ (p.extractLsb' 8 16).toNat = p.toNat / 2 ^ 8 % 2 ^ 16 := by
  have hp := p.isLt
  simp only [BitVec.extractLsb'_toNat, Nat.shiftRight_eq_div_pow, and_true]
  omega

/-- The fields of a percussion phase (R141). -/
theorem percussion_phase_fields (p : Word) :
    (p.extractLsb' 16 16).toNat = p.toNat / 2 ^ 16 ∧ (p.extractLsb' 0 16).toNat = p.toNat % 2 ^ 16 := by
  have hp := p.isLt
  simp only [BitVec.extractLsb'_toNat, Nat.shiftRight_eq_div_pow, Nat.pow_zero, Nat.div_one, and_true]
  omega

/-- Settles O21: the phase's fields are its quotient and remainder, and reads inside the tables are the rows. -/
theorem waveformReadFollowsThePhase : Obligations.WaveformReadFollowsThePhase := by
  unfold Obligations.WaveformReadFollowsThePhase
  refine fun c v s0 s1 => ⟨fun hperc i w hi hw h0 h1 => ?melodic, fun hperc d hd h0 h1 => ?percussion⟩
  case melodic =>
    obtain ⟨hidx, hfr⟩ := melodic_phase_fields v.phase
    rw [osc, if_neg (ne_true_of_eq_false hperc), melodicOsc, instrument_of_getElem c hi]
    simp only [hidx, waveSample_of_getElem hw h0, waveSample_of_getElem hw h1, interp, asr, hfr]
  case percussion =>
    obtain ⟨hidx, hfr⟩ := percussion_phase_fields v.phase
    rw [osc, if_pos hperc, percussionOsc]
    simp only [hidx, drumSample_of_getElem hd h0, drumSample_of_getElem hd h1, interp, asr, hfr]

/-- A waveform read is an interpolated sample, so it is in the range of samples. -/
theorem osc_range (c : Config) (v : Voice) : -32768 ≤ osc c v ∧ osc c v ≤ 32767 := by
  have hinterp (s0 s1 : Sample) (fr : BitVec 16) : -32768 ≤ interp s0 s1 fr ∧ interp s0 s1 fr ≤ 32767 := by
    have h := interp_between s0 s1 fr
    have h0 := BitVec.le_toInt s0
    have h0' := BitVec.toInt_lt (x := s0)
    have h1 := BitVec.le_toInt s1
    have h1' := BitVec.toInt_lt (x := s1)
    omega
  unfold osc
  split
  · exact hinterp _ _ _
  · exact hinterp _ _ _

/-! Velocity and wait counts. -/

/-- Settles O22: the clamp is monotone. -/
theorem velocityScaleIsMonotone : Obligations.VelocityScaleIsMonotone := by
  unfold Obligations.VelocityScaleIsMonotone
  refine ⟨velocityScale_toNat, fun a b hab => ?monotone, by decide, by decide⟩
  case monotone =>
    rw [velocityScale_toNat, velocityScale_toNat]
    omega

/-- Settles O23: the ticks are the exact quotient (40_score_interpreter.md R104). -/
theorem waitConversionIsMonotone : Obligations.WaitConversionIsMonotone := by
  unfold Obligations.WaitConversionIsMonotone
  intro c a b
  rw [waitToTicks_toNat, waitToTicks_toNat]
  exact ⟨fun hab => Nat.div_le_div_right (Nat.mul_le_mul_right _ hab), Nat.div_mul_cancel,
    Nat.div_mul_le_self _ _, Nat.lt_mul_of_div_lt (Nat.lt_succ_self _) (by decide)⟩

/-! A voice's contribution (43_mixer.md R181, R182). -/

section Contribution

variable {c : Config} {v : Voice}

theorem envScaled_melodic (c : Config) (h : v.perc = false) : envScaled c v = asr (osc c v * envMult v) 16 :=
  if_neg (ne_true_of_eq_false h)

theorem envScaled_percussion (c : Config) (h : v.perc = true) : envScaled c v = osc c v := if_pos h

theorem envScaled_between (c : Config) (hlevel : v.envLevel.toNat ≤ 2 ^ 30) :
    min (osc c v) 0 ≤ envScaled c v ∧ envScaled c v ≤ max (osc c v) 0 := by
  cases hperc : v.perc with
  | true =>
    rw [envScaled_percussion c hperc]
    exact ⟨min_le_left _ _, le_max_left _ _⟩
  | false =>
    rw [envScaled_melodic c hperc, envMult_eq]
    exact mul_shift_between _ _ 16 (by omega) (by omega)

theorem contrib_between (c : Config) (v : Voice) :
    min (envScaled c v) 0 ≤ contrib c v ∧ contrib c v ≤ max (envScaled c v) 0 := by
  have hscale := v.vscale.isLt
  exact mul_shift_between _ _ 7 (by omega) (by omega)

/-- The velocity scale is at most 127, so the extremes are 127 / 128 of those of a sample (43_mixer.md R182). -/
theorem contrib_range (c : Config) (hlevel : v.envLevel.toNat ≤ 2 ^ 30) :
    -32512 ≤ contrib c v ∧ contrib c v ≤ 32511 := by
  obtain ⟨hlow, hhigh⟩ := osc_range c v
  obtain ⟨hlow', hhigh'⟩ := envScaled_between c hlevel
  have hscale : (v.vscale.toNat : Int) ≤ 127 := by have := v.vscale.isLt; omega
  have hlow'' : -32768 ≤ envScaled c v := by omega
  have hhigh'' : envScaled c v ≤ 32767 := by omega
  have hmin := mul_le_mul_of_nonneg_right hlow'' (Int.natCast_nonneg v.vscale.toNat)
  have hmax := mul_le_mul_of_nonneg_right hhigh'' (Int.natCast_nonneg v.vscale.toNat)
  rw [contrib, asr]
  omega

theorem envScaled_fullScale (c : Config) (hperc : v.perc = false) (hlevel : v.envLevel.toNat = 2 ^ 30) :
    envScaled c v = osc c v := by
  rw [envScaled_melodic c hperc, envMult_eq, hlevel]
  exact Int.mul_ediv_cancel _ (by decide)

theorem envScaled_zero (c : Config) (hperc : v.perc = false) (hlevel : v.envLevel.toNat = 0) :
    envScaled c v = 0 := by
  simp [envScaled_melodic c hperc, envMult_eq, hlevel, asr]

end Contribution

/-- Settles O28: each scaling is a product with a factor of at most 1. -/
theorem contributionIsBounded : Obligations.ContributionIsBounded := by
  unfold Obligations.ContributionIsBounded
  intro c v hlevel
  obtain ⟨hlow, hhigh⟩ := envScaled_between c hlevel
  obtain ⟨hlow', hhigh'⟩ := contrib_between c v
  exact ⟨congrFun (contrib_eq_voicePart c) v, hlow, hhigh, hlow', hhigh', contrib_range c hlevel,
    envScaled_fullScale c, envScaled_zero c⟩

/-! Silence (43_mixer.md R189). -/

section Silence

variable {s : State} (h : ∀ v ∈ s.voices.take s.nv.toNat, v.playing = false)
include h

theorem State.mixed_of_silent : s.mixed = [] := by
  simpa [State.mixed, List.filter_eq_nil_iff] using h

theorem State.mixSample_of_silent : s.mixSample = 0 := by
  have hzero : s.acc = 0 := by simp [State.acc, State.mixed_of_silent h]
  rw [State.mixSample, hzero, zero_mul]
  decide

theorem State.activeCount_of_silent : s.activeCount = 0 := by
  simp [State.activeCount, State.mixed_of_silent h]

end Silence

/-- Settles O30: with nothing to sum the sample and the count are 0. -/
theorem silenceIsZero : Obligations.SilenceIsZero := by
  unfold Obligations.SilenceIsZero
  intro s i hmix hi hsilent
  refine ⟨s.finishTick i, step_of_mix hmix, ?out, ?count⟩
  case out =>
    rw [State.finishTick_out, State.mixSample_of_silent hsilent]
    exact List.getElem?_set_self hi
  case count => rw [State.finishTick_prevActive, State.activeCount_of_silent hsilent]

/-! The attenuation table (20_memory.md R68). -/

theorem isChain_of_nonIncreasing {l : List Nat} (h : nonIncreasing l = true) : l.IsChain (· ≥ ·) := by
  induction l with
  | nil => exact .nil
  | cons a l ih =>
    cases l with
    | nil => exact .singleton a
    | cons b l =>
      simp only [nonIncreasing, Bool.and_eq_true, decide_eq_true_eq] at h
      obtain ⟨hab, hrest⟩ := h
      exact .cons_cons hab (ih hrest)

theorem atten_pairwise (c : Config) : c.params.atten.Pairwise (· ≥ ·) := by
  obtain ⟨-, -, hatten, -⟩ := wf_parts c
  simp only [Params.attenOk, Bool.and_eq_true] at hatten
  exact (isChain_of_nonIncreasing hatten.2).pairwise

theorem atten_getElem? (c : Config) {k : Nat} (h : k ≤ c.params.nvoices) :
    c.params.atten[k]? = some (gain c k) := by
  obtain ⟨-, -, hatten, -⟩ := wf_parts c
  simp only [Params.attenOk, Bool.and_eq_true, decide_eq_true_eq] at hatten
  obtain ⟨⟨hlen, -⟩, -⟩ := hatten
  have hk : k < c.params.atten.length := by omega
  rw [gain, List.getElem?_eq_getElem hk, Option.getD_some]

theorem gain_antitone (c : Config) {j k : Nat} (hjk : j ≤ k) (hk : k ≤ c.params.nvoices) : gain c k ≤ gain c j := by
  obtain rfl | hlt := hjk.eq_or_lt
  · exact le_rfl
  · obtain ⟨hj', hj⟩ := List.getElem?_eq_some_iff.1 (atten_getElem? c (hjk.trans hk))
    obtain ⟨hk', hk⟩ := List.getElem?_eq_some_iff.1 (atten_getElem? c hk)
    rw [← hj, ← hk]
    exact List.pairwise_iff_getElem.1 (atten_pairwise c) j k hj' hk' hlt

/-- Settles O32: a table whose neighbours do not rise does not rise at any distance. -/
theorem attenuationNeverRises : Obligations.AttenuationNeverRises := by
  unfold Obligations.AttenuationNeverRises
  intro c j k hjk hk
  exact ⟨gain c j, gain c k, atten_getElem? c (hjk.trans hk), atten_getElem? c hk, gain_antitone c hjk hk,
    gain_le c (hjk.trans hk), rfl, rfl⟩

/-- The default factor for `k` voices shares unity among them (20_memory.md R68). -/
theorem gain_default {c : Config} (hdef : c.params.atten = defaultAtten c.params.nvoices) {k : Nat} (h1 : 1 ≤ k)
    (hk : k ≤ c.params.nvoices) : gain c k = 256 / k := by
  obtain ⟨j, rfl⟩ := Nat.exists_eq_add_of_le' h1
  have hj : j < c.params.nvoices := hk
  exact gain_of_getElem (by simp [hdef, defaultAtten, hj])

/-- A sum of contributions is bounded by their number (43_mixer.md R190). -/
theorem State.acc_range {s : State} (h : ∀ v ∈ s.mixed, v.envLevel.toNat ≤ 2 ^ 30) :
    s.mixed.length * -32512 ≤ s.acc ∧ s.acc ≤ s.mixed.length * 32512 := by
  have hrange : ∀ x ∈ s.mixed.map (contrib s.cfg), -32512 ≤ x ∧ x ≤ 32512 := by
    intro x hx
    obtain ⟨v, hv, rfl⟩ := List.mem_map.1 hx
    have hc := contrib_range s.cfg (h v hv)
    omega
  have hlow := List.card_nsmul_le_sum _ _ fun x hx => (hrange x hx).1
  have hhigh := List.sum_le_card_nsmul _ _ fun x hx => (hrange x hx).2
  rw [List.length_map, nsmul_eq_mul] at hlow hhigh
  exact ⟨hlow, hhigh⟩

/-- At most `n` contributions, each scaled by `256 / n`, stay inside one. -/
theorem attenuated_range {a : Int} {m n : Nat} (hmn : m ≤ n) (hlow : m * -32512 ≤ a)
    (hhigh : a ≤ m * 32512) :
    -32512 ≤ asr (a * ((256 / n : Nat) : Int)) 8 ∧ asr (a * ((256 / n : Nat) : Int)) 8 ≤ 32512 := by
  have hshare : ((n * (256 / n) : Nat) : Int) ≤ 256 := by exact_mod_cast Nat.mul_div_le 256 n
  have hg : (0 : Int) ≤ ((256 / n : Nat) : Int) := Int.natCast_nonneg _
  have hmn' : (m : Int) ≤ n := by exact_mod_cast hmn
  rw [Nat.cast_mul] at hshare
  have hmin : -32512 * 256 ≤ a * ((256 / n : Nat) : Int) := by
    have h1 := mul_le_mul_of_nonneg_right (show n * -32512 ≤ a by omega) hg
    linarith
  have hmax : a * ((256 / n : Nat) : Int) ≤ 32512 * 256 := by
    have h1 := mul_le_mul_of_nonneg_right (show a ≤ n * 32512 by omega) hg
    linarith
  generalize a * ((256 / n : Nat) : Int) = p at *
  rw [asr]
  omega

theorem State.mem_voices_of_mem_mixed {s : State} {v : Voice} (h : v ∈ s.mixed) : v ∈ s.voices := by
  obtain ⟨hv, -⟩ := List.mem_filter.1 h
  exact List.mem_of_mem_take hv

/-- Settles O33: at most `nv` voices contribute, each below full range, and the factor is 256 / nv. -/
theorem defaultTableNeverSaturates : Obligations.DefaultTableNeverSaturates := by
  unfold Obligations.DefaultTableNeverSaturates
  intro s hok hstatic hdef
  obtain ⟨-, -, ⟨hone, hnv⟩, -, hvoices, -⟩ := hok
  have hcount : s.mixed.length ≤ s.nv.toNat :=
    (List.length_filter_le _ _).trans (List.length_take_le _ _)
  obtain ⟨hlow, hhigh⟩ := s.acc_range fun v hv =>
    (hvoices v (State.mem_voices_of_mem_mixed hv)).envLevel_le
  have hrange := attenuated_range hcount hlow hhigh
  rw [← gain_default hdef hone hnv, ← State.attenIndex_static hstatic] at hrange
  refine ⟨by omega, by omega, ?sample⟩
  case sample =>
    rw [State.mixSample, toSample_sat16]
    omega

end Sys2Proof.Machine
end

/-! SUPPORT. What every step keeps: the invariants of reachable states (10_state.md R42), how much of the output block
is written (20_memory.md R66), and the registers only some steps write (10_state.md R41). -/

section
namespace Sys2Proof.Machine

open Sys2Proof.Claims

/-! The kinds of step. -/

theorem Activity.idle_or_inside (a : Activity) :
    a = .idle ∨ (∃ c, a = .interp c) ∨ (∃ i, a = .tick i) ∨ ∃ i, a = .mix i := by
  cases a <;> simp

/-- Every step of the block: nothing left to do, an entry of the host's script, a command of STEP, stage 1 of a tick, or
its stages 2 and 3 (log entry 4). -/
theorem step_cases {s t : State} (h : step s = .next t) :
    (s.activity = .idle ∧ s.script = [] ∧ t = s) ∨
    (∃ op rest, s.activity = .idle ∧ s.script = op :: rest ∧ t = ({ s with script := rest } : State).host op) ∨
    (∃ c, s.activity = .interp c ∧ Executes s s.fetched t) ∨
    (∃ i, s.activity = .tick i ∧ t = s.countdown i) ∨
    (∃ i, s.activity = .mix i ∧ t = s.finishTick i) := by
  have heq {t' : State} (h' : step s = .next t') : t = t' := Host.Outcome.next.inj (h.symm.trans h')
  obtain hact | ⟨c, hact⟩ | ⟨i, hact⟩ | ⟨i, hact⟩ := s.activity.idle_or_inside
  · obtain ⟨hnil, hstep⟩ | ⟨op, rest, hcons, hstep⟩ := idleStep_cases hact
    · exact .inl ⟨hact, hnil, heq hstep⟩
    · exact .inr (.inl ⟨op, rest, hact, hcons, heq hstep⟩)
  · exact .inr (.inr (.inl ⟨c, hact, executes_of_exec ((step_of_interp hact).symm.trans h)⟩))
  · exact .inr (.inr (.inr (.inl ⟨i, hact, heq (step_of_tick hact)⟩)))
  · exact .inr (.inr (.inr (.inr ⟨i, hact, heq (step_of_mix hact)⟩)))

theorem step_next (s : State) : ∃ t, step s = .next t := by
  obtain hact | ⟨c, hact⟩ | ⟨i, hact⟩ | ⟨i, hact⟩ := s.activity.idle_or_inside
  · exact ⟨s.idleStep, by simp only [step, hact]⟩
  · obtain ⟨t, hexec, -⟩ := exec_executes s.fetched s
    exact ⟨t, (step_of_interp hact).trans hexec⟩
  · exact ⟨_, step_of_tick hact⟩
  · exact ⟨_, step_of_mix hact⟩

/-- Settles O52: every step answers a next state. -/
theorem noRunStops : Obligations.NoRunStops := by
  unfold Obligations.NoRunStops
  intro k
  induction k with
  | zero => exact fun s => ⟨s, runsTo_zero s⟩
  | succ k ih =>
    intro s
    obtain ⟨s', hstep⟩ := step_next s
    obtain ⟨t, hrun⟩ := ih s'
    exact ⟨t, (runsTo_succ hstep).2 hrun⟩

/-- Settles O54: an idle block with an empty script steps to itself. -/
theorem idleBlockHoldsItsState : Obligations.IdleBlockHoldsItsState := by
  unfold Obligations.IdleBlockHoldsItsState
  intro s k hidle hscript
  exact runsTo_self (by simp only [step, hidle, State.idleStep, hscript]) k

/-- Settles O44: the step is `powerOn` on the rest of the script. -/
theorem resetInputRestoresTheRegisters : Obligations.ResetInputRestoresTheRegisters := by
  unfold Obligations.ResetInputRestoresTheRegisters
  exact fun s rest hidle hscript => step_of_script hidle hscript

/-! The score memory. -/

/-- Settles O41: the step is the write of one byte. -/
theorem hostWriteIsSeenByTheNextRead : Obligations.HostWriteIsSeenByTheNextRead := by
  unfold Obligations.HostWriteIsSeenByTheNextRead
  intro s a b rest hidle hscript hwf
  have hread (a' : Word) : (s.score.write a b).read a' = if a' = a then b else s.score.read a' :=
    Memory.read_write hwf a a' b
  exact ⟨_, step_of_script hidle hscript, Memory.write_wf hwf a b, (hread a).trans (if_pos rfl),
    fun a' hne => (hread a').trans (if_neg hne), rfl⟩

theorem cellsOk_cons {pad v : Byte} {lo k : Nat} {r : List Host.Cell} :
    cellsOk pad lo ((k, v) :: r) = true ↔ lo ≤ k ∧ k < 2 ^ 32 ∧ v ≠ pad ∧ cellsOk pad (k + 1) r = true := by
  simp only [cellsOk, Bool.and_eq_true, decide_eq_true_eq, and_assoc]

/-- The first listed cell reads as no list that begins later does. -/
theorem readCells_head_ne {pad v : Byte} {k lo : Nat} {r l : List Host.Cell} (hv : v ≠ pad)
    (hl : cellsOk pad lo l = true) (hlo : k < lo) : readCells pad k ((k, v) :: r) ≠ readCells pad k l := by
  rw [readCells_of_lt hl hlo, readCells, if_pos rfl]
  exact hv

/-- Canonical lists that read the same are the same: their first addresses are equal, for the lower one would read as
padding in the other, and so are their first bytes and the rests. -/
theorem cells_ext {pad : Byte} {lo lo' : Nat} {l l' : List Host.Cell} (hl : cellsOk pad lo l = true)
    (hl' : cellsOk pad lo' l' = true) (hread : ∀ a < 2 ^ 32, readCells pad a l = readCells pad a l') : l = l' := by
  induction l generalizing lo lo' l' with
  | nil =>
    cases l' with
    | nil => rfl
    | cons x' r' =>
      obtain ⟨k', v'⟩ := x'
      obtain ⟨-, hk', hv', -⟩ := cellsOk_cons.1 hl'
      exact absurd (hread k' hk').symm (readCells_head_ne (l := []) hv' rfl (Nat.lt_succ_self k'))
  | cons x r ih =>
    obtain ⟨k, v⟩ := x
    obtain ⟨-, hk, hv, hr⟩ := cellsOk_cons.1 hl
    cases l' with
    | nil => exact absurd (hread k hk) (readCells_head_ne (l := []) hv rfl (Nat.lt_succ_self k))
    | cons x' r' =>
      obtain ⟨k', v'⟩ := x'
      obtain ⟨-, hk', hv', hr'⟩ := cellsOk_cons.1 hl'
      have hfirst {lo k : Nat} {v : Byte} {r : List Host.Cell} (h : cellsOk pad lo ((k, v) :: r) = true) :
          cellsOk pad k ((k, v) :: r) = true := by
        obtain ⟨-, hrest⟩ := cellsOk_cons.1 h
        exact cellsOk_cons.2 ⟨le_rfl, hrest⟩
      obtain hlt | rfl | hgt := Nat.lt_trichotomy k k'
      · exact absurd (hread k hk) (readCells_head_ne hv (hfirst hl') hlt)
      · have hbyte : v = v' := by simpa [readCells] using hread k hk
        have hrest : r = r' := ih hr hr' fun a ha => by
          by_cases hak : k = a
          · rw [readCells_of_lt hr (by omega), readCells_of_lt hr' (by omega)]
          · simpa [readCells, hak] using hread a ha
        rw [hbyte, hrest]
      · exact absurd (hread k' hk').symm (readCells_head_ne hv' (hfirst hl) hgt)

/-- Settles O42: over one padding byte the canonical lists are equal. -/
theorem equalReadsAreEqualMemories : Obligations.EqualReadsAreEqualMemories := by
  unfold Obligations.EqualReadsAreEqualMemories
  rintro ⟨pad, cells⟩ ⟨pad', cells'⟩ hwf hwf' rfl hread
  have hcells : cells = cells' := cells_ext hwf hwf' fun a ha => by
    have haddr : (BitVec.ofNat 32 a).toNat = a := Nat.mod_eq_of_lt ha
    have h := hread (BitVec.ofNat 32 a)
    rwa [Memory.read, Memory.read, haddr] at h
  rw [hcells]

/-! The registers that only some steps write (10_state.md R41). -/

/-- STOP() leaves the state alone or halts the score (45_control_surface.md R217). -/
theorem State.host_stop_eq (s : State) : s.host .stop = s ∨ s.host .stop = s.haltScore := by
  cases hplay : s.scorePlaying with
  | false => exact .inl (State.stopScore_of_notPlaying hplay)
  | true => exact .inr (State.stopScore_of_playing hplay)

/-- Settles O53: by the kind of step, and in a transaction by which it is. -/
theorem onlyStartWritesTheMode : Obligations.OnlyStartWritesTheMode := by
  unfold Obligations.OnlyStartWritesTheMode
  intro s t hstep
  obtain ⟨-, -, rfl⟩ | ⟨op, rest, hidle, hscript, rfl⟩ | ⟨c, -, hexec⟩ | ⟨i, -, rfl⟩ | ⟨i, -, rfl⟩ := step_cases hstep
  · exact ⟨rfl, .inl rfl, .inl ⟨rfl, rfl, rfl⟩⟩
  · cases op with
    | start base o => exact ⟨rfl, .inl rfl, .inr ⟨hidle, rest, .inl ⟨base, o, hscript⟩⟩⟩
    | stop =>
      obtain h | h := State.host_stop_eq { s with script := rest } <;> rw [h] <;>
        exact ⟨rfl, .inl rfl, .inl ⟨rfl, rfl, rfl⟩⟩
    | isPlaying => exact ⟨rfl, .inl rfl, .inl ⟨rfl, rfl, rfl⟩⟩
    | render => exact ⟨rfl, .inl rfl, .inl ⟨rfl, rfl, rfl⟩⟩
    | writeScore a b => exact ⟨rfl, .inr ⟨a, b, rest, hidle, hscript⟩, .inl ⟨rfl, rfl, rfl⟩⟩
    | reset => exact ⟨rfl, .inl rfl, .inr ⟨hidle, rest, .inr hscript⟩⟩
  · obtain ⟨hstart, hvol, hnv, -⟩ := hexec.sameControl
    exact ⟨hexec.cfg_eq, .inl hexec.score_eq, .inl ⟨hstart, hvol, hnv⟩⟩
  · obtain ⟨-, -, -, h⟩ | ⟨-, -, -, h⟩ | ⟨-, h⟩ := s.countdown_cases i <;>
      exact h ▸ ⟨rfl, .inl rfl, .inl ⟨rfl, rfl, rfl⟩⟩
  · exact ⟨rfl, .inl rfl, .inl ⟨rfl, rfl, rfl⟩⟩

/-! The invariants (10_state.md R42), but for the countdown's and the place's. -/

/-- The part of `State.Ok` that speaks of the voices, the generator, the counts and the two memories. -/
structure State.Steady (s : State) : Prop where
  length : s.voices.length = s.cfg.params.nvoices
  lfsr : s.lfsr ≠ 0
  nv : 1 ≤ s.nv.toNat ∧ s.nv.toNat ≤ s.cfg.params.nvoices
  silent : ∀ v ∈ s.voices.drop s.nv.toNat, v.playing = false
  voices : ∀ v ∈ s.voices, v.Ok s.cfg
  prevActive : s.prevActive.toNat ≤ s.cfg.params.nvoices
  out : s.out.length = s.cfg.params.block
  score : s.score.wf = true

theorem State.ok_iff {s : State} :
    s.Ok ↔ s.Steady ∧ (s.scorePlaying = false → s.waitTicks = 0) ∧ s.placeOk = true := by
  constructor
  · rintro ⟨hlen, hlfsr, hnv, hsilent, hvoices, hprev, hwait, hplace, hout, hscore⟩
    exact ⟨⟨hlen, hlfsr, hnv, hsilent, hvoices, hprev, hout, hscore⟩, hwait, hplace⟩
  · rintro ⟨⟨hlen, hlfsr, hnv, hsilent, hvoices, hprev, hout, hscore⟩, hwait, hplace⟩
    exact ⟨hlen, hlfsr, hnv, hsilent, hvoices, hprev, hwait, hplace, hout, hscore⟩

section Steady

variable {s : State}

theorem State.Steady.setLfsr (h : s.Steady) {l : BitVec 8} (hl : l ≠ 0) : (s.setLfsr l).Steady :=
  { h with lfsr := hl }

/-- A voice below `nv` may be replaced by any good record. -/
theorem State.Steady.setVoice (h : s.Steady) {u : Nat} (hu : u < s.nv.toNat) {w : Voice} (hw : w.Ok s.cfg) :
    (s.setVoice u w).Steady :=
  { h with
    length := List.length_set.trans h.length
    silent := by
      rw [State.setVoice_voices, State.setVoice_nv, List.drop_set_of_lt hu]
      exact h.silent
    voices := fun v hv => by
      obtain hold | rfl := List.mem_or_eq_of_mem_set hv
      · exact h.voices v hold
      · exact hw }

/-- An operation on every voice that keeps a voice good and a silent voice as it is. -/
theorem State.Steady.mapVoices (h : s.Steady) {f : Voice → Voice} (hok : ∀ v, v.Ok s.cfg → (f v).Ok s.cfg)
    (hsilent : ∀ v, v.playing = false → f v = v) : (s.setVoices (s.voices.map f)).Steady :=
  { h with
    length := List.length_map f |>.trans h.length
    silent := by
      rw [State.setVoices_voices, State.setVoices_nv, ← List.map_drop]
      refine List.forall_mem_map.2 fun v hv => ?_
      rw [hsilent v (h.silent v hv)]
      exact h.silent v hv
    voices := List.forall_mem_map.2 fun v hv => hok v (h.voices v hv) }

theorem State.Steady.haltScore (h : s.Steady) : s.haltScore.Steady :=
  { h.mapVoices (fun _ => noteOffVoice_ok) (fun _ => noteOffVoice_of_silent s.cfg) with }

theorem VoiceEffect.ok {c : Config} {v w : Voice} (h : VoiceEffect c v w) (hv : v.Ok c) : w.Ok c := by
  cases h with
  | noteOff => exact noteOffVoice_ok hv
  | select hk => exact selectInstrument_ok hk hv
  | drum vel hd => exact percussionOn_ok vel hd hv

theorem Executes.steady {i : Instr} {t : State} (hexec : Executes s i t) (h : s.Steady) : t.Steady := by
  cases hexec with
  | wait | restart | skip => exact { h with }
  | stop x => exact { (State.Steady.haltScore (s := s.advance 1) { h with }) with }
  | effect i k hu hv hw =>
    have hgood := h.voices _ (List.mem_of_getElem? hv)
    exact State.Steady.setVoice (s := s.advance k) { h with } hu (hw.ok hgood)
  | @melodic i u n k vel v hi hn hu hv =>
    have hgood := h.voices _ (List.mem_of_getElem? hv)
    have hnext := State.Steady.setLfsr (s := s.advance k) { h with } (lfsrNext_ne_zero h.lfsr)
    exact hnext.setVoice hu (melodicOn_ok n vel _ hgood)

theorem State.Steady.countdown (h : s.Steady) (i : Nat) : (s.countdown i).Steady := by
  obtain ⟨-, -, -, heq⟩ | ⟨-, -, -, heq⟩ | ⟨-, heq⟩ := s.countdown_cases i <;> rw [heq] <;> exact { h with }

theorem State.Steady.finishTick (h : s.Steady) (i : Nat) : (s.finishTick i).Steady := by
  obtain ⟨⟨-, hsixteen⟩, -⟩ := ranges s.cfg
  have hadvanced := h.mapVoices (fun _ => advanceVoice_ok) (fun _ => advanceVoice_silent s.cfg)
  refine { hadvanced with prevActive := ?count, out := ?out }
  case count =>
    rw [State.finishTick_prevActive, State.activeCount_toNat (h.length.trans_le hsixteen)]
    exact s.mixed_length_le.trans h.length.le
  case out => exact List.length_set.trans h.out

/-- Fresh voice records and any voice count in range are good (45_control_surface.md R210, R211). -/
theorem State.Steady.startScore (h : s.Steady) (base : Word) (override : Byte) :
    (s.startScore base override).Steady where
  length := List.length_replicate
  lfsr := h.lfsr
  nv := State.startScore_nv_range override s base
  silent v hv := by rw [List.eq_of_mem_replicate (List.mem_of_mem_drop hv)]; rfl
  voices v hv := by rw [List.eq_of_mem_replicate hv]; exact Voice.reset_ok s.cfg
  prevActive := Nat.zero_le _
  out := h.out
  score := h.score

theorem State.resetWith_steady (c : Config) {m : Memory} (ops : List HostOp) (hm : m.wf = true) :
    (State.resetWith c m ops).Steady where
  length := State.resetWith_voices_length c m ops
  lfsr := by simp [State.resetWith]
  nv := by
    obtain ⟨⟨hone, -⟩, -⟩ := ranges c
    rw [State.resetWith_nv_toNat]
    exact ⟨hone, le_rfl⟩
  silent v hv := by
    rw [State.eq_reset_of_mem_resetWith_voices c m ops (List.mem_of_mem_drop hv)]; rfl
  voices v hv := by
    rw [State.eq_reset_of_mem_resetWith_voices c m ops hv]; exact Voice.reset_ok c
  prevActive := Nat.zero_le _
  out := List.length_replicate
  score := hm

theorem State.Steady.host (h : s.Steady) (op : HostOp) : (s.host op).Steady := by
  cases op with
  | start base override => exact h.startScore base override
  | stop =>
    obtain heq | heq := s.host_stop_eq <;> rw [heq]
    · exact h
    · exact h.haltScore
  | isPlaying => exact { h with }
  | render => exact { h with out := List.length_replicate }
  | writeScore a b => exact { h with score := Memory.write_wf h.score a b }
  | reset => exact { State.resetWith_steady s.cfg s.script h.score with out := h.out }

end Steady

/-! The countdown and the place of every reachable state. -/

section Place

variable {s t : State}

/-- A command stays inside STEP or returns from it (40_score_interpreter.md R100). -/
theorem Executes.activity {i : Instr} (h : Executes s i t) :
    t.activity = s.activity ∨ t.activity = s.returnFromStep.activity := by
  cases h with
  | wait | stop => exact .inr rfl
  | _ => exact .inl rfl

/-- Inside a STEP that tick `i` invoked, a command stays there or goes on to the tick's mix. -/
theorem Executes.activity_of_tick {i : Instr} {k : Nat} (h : Executes s i t) (hact : s.activity = .interp (.tick k)) :
    t.activity = .interp (.tick k) ∨ t.activity = .mix k := by
  obtain hsame | hret := h.activity
  · exact .inl (hsame.trans hact)
  · exact .inr (hret.trans (s.returnFromStep_tick k hact))

theorem Executes.activity_of_start {i : Instr} (h : Executes s i t) (hact : s.activity = .interp .start) :
    t.activity = .interp .start ∨ t.activity = .idle := by
  obtain hsame | hret := h.activity
  · exact .inl (hsame.trans hact)
  · exact .inr (hret.trans (s.returnFromStep_start hact))

/-- Stage 1 invokes STEP in its tick or goes on to the mix (44_render_step.md R197). -/
theorem State.countdown_activity (s : State) (i : Nat) :
    (s.countdown i).activity = .interp (.tick i) ∨ (s.countdown i).activity = .mix i := by
  obtain ⟨-, -, -, h⟩ | ⟨-, -, -, h⟩ | ⟨-, h⟩ := s.countdown_cases i
  · exact .inl (by rw [h])
  · exact .inr (by rw [h])
  · exact .inr (by rw [h])

/-- Inside STEP the score plays and no countdown is active. -/
theorem State.placeOk_interp {c : Caller} (h : s.activity = .interp c) : s.placeOk = true ↔
    s.scorePlaying = true ∧ s.waitTicks = 0 ∧ ∀ i, c = .tick i → i < s.cfg.params.block := by
  cases c with
  | start => simp [State.placeOk, h, State.waitActive]
  | tick i => simp [State.placeOk, h, State.waitActive, and_assoc]

theorem State.placeOk_mix {i : Nat} (h : s.activity = .mix i) : s.placeOk = true ↔ i < s.cfg.params.block := by
  simp [State.placeOk, h]

theorem State.placeOk_tick {i : Nat} (h : s.activity = .tick i) : s.placeOk = true ↔ i < s.cfg.params.block := by
  simp [State.placeOk, h]

theorem State.placeOk_idle (h : s.activity = .idle) : s.placeOk = true := by
  simp [State.placeOk, h]

/-- STEP's return leads to a good place, whatever the countdown (40_score_interpreter.md R104, R110). -/
theorem State.placeOk_returned {c : Caller} (hact : s.activity = .interp c) (hplace : s.placeOk = true)
    (ht : t.activity = s.returnFromStep.activity) (hcfg : t.cfg = s.cfg) : t.placeOk = true := by
  obtain ⟨-, -, htick⟩ := (State.placeOk_interp hact).1 hplace
  cases c with
  | start => exact State.placeOk_idle (ht.trans (s.returnFromStep_start hact))
  | tick i => exact (State.placeOk_mix (ht.trans (s.returnFromStep_tick i hact))).2 (hcfg ▸ htick i rfl)

theorem Executes.ok {i : Instr} {c : Caller} (hexec : Executes s i t) (hact : s.activity = .interp c)
    (h : s.Ok) : t.Ok := by
  obtain ⟨hsteady, -, hplace⟩ := State.ok_iff.1 h
  obtain ⟨hplay, hwait, -⟩ := (State.placeOk_interp hact).1 hplace
  refine State.ok_iff.2 ⟨hexec.steady hsteady, ?_⟩
  cases hexec with
  | wait ms =>
    exact ⟨fun hoff => absurd (hplay.symm.trans hoff) (by decide), State.placeOk_returned hact hplace rfl rfl⟩
  | stop x => exact ⟨fun _ => rfl, State.placeOk_returned hact hplace rfl rfl⟩
  | _ => exact ⟨fun _ => hwait, hplace⟩

theorem State.Ok.countdown {i : Nat} (hact : s.activity = .tick i) (h : s.Ok) : (s.countdown i).Ok := by
  obtain ⟨hsteady, hwait, hplace⟩ := State.ok_iff.1 h
  have hi := (State.placeOk_tick hact).1 hplace
  refine State.ok_iff.2 ⟨hsteady.countdown i, ?_⟩
  obtain ⟨hplay, -, -, heq⟩ | ⟨hplay, -, -, heq⟩ | ⟨-, heq⟩ := s.countdown_cases i <;> rw [heq]
  · exact ⟨fun _ => rfl, (State.placeOk_interp rfl).2 ⟨hplay, rfl, fun j hj => Caller.tick.inj hj ▸ hi⟩⟩
  · exact ⟨fun hoff => absurd (hplay.symm.trans hoff) (by decide), (State.placeOk_mix rfl).2 hi⟩
  · exact ⟨hwait, (State.placeOk_mix rfl).2 hi⟩

theorem State.Ok.finishTick (i : Nat) (h : s.Ok) : (s.finishTick i).Ok := by
  obtain ⟨hsteady, hwait, -⟩ := State.ok_iff.1 h
  refine State.ok_iff.2 ⟨hsteady.finishTick i, hwait, ?place⟩
  case place =>
    by_cases hlast : i + 1 < s.cfg.params.block
    · exact (State.placeOk_tick ((s.finishTick_activity i).trans (if_pos hlast))).2 hlast
    · exact State.placeOk_idle ((s.finishTick_activity i).trans (if_neg hlast))

theorem State.Ok.host (hact : s.activity = .idle) (h : s.Ok) (op : HostOp) : (s.host op).Ok := by
  obtain ⟨hsteady, hwait, hplace⟩ := State.ok_iff.1 h
  refine State.ok_iff.2 ⟨hsteady.host op, ?_⟩
  cases op with
  | start base override =>
    exact ⟨fun _ => rfl, (State.placeOk_interp rfl).2 ⟨rfl, rfl, fun _ hc => nomatch hc⟩⟩
  | stop =>
    obtain heq | heq := s.host_stop_eq <;> rw [heq]
    · exact ⟨hwait, hplace⟩
    · exact ⟨fun _ => rfl, State.placeOk_idle hact⟩
  | isPlaying => exact ⟨hwait, hplace⟩
  | render =>
    obtain ⟨-, -, hblock, -⟩ := ranges s.cfg
    exact ⟨hwait, (State.placeOk_tick rfl).2 hblock⟩
  | writeScore a b => exact ⟨hwait, hplace⟩
  | reset => exact ⟨fun _ => rfl, State.placeOk_idle rfl⟩

/-- Settles O51: by the kind of step. -/
theorem stepKeepsTheInvariants : Obligations.StepKeepsTheInvariants := by
  unfold Obligations.StepKeepsTheInvariants
  intro s t h hstep
  obtain ⟨-, -, rfl⟩ | ⟨op, rest, hidle, -, rfl⟩ | ⟨c, hact, hexec⟩ | ⟨i, hact, rfl⟩ | ⟨i, -, rfl⟩ :=
    step_cases hstep
  · exact h
  · exact State.Ok.host (s := { s with script := rest }) hidle h op
  · exact hexec.ok hact h
  · exact h.countdown hact
  · exact h.finishTick i

end Place

theorem State.resetWith_ok (c : Config) {m : Memory} (ops : List HostOp) (hm : m.wf = true) :
    (State.resetWith c m ops).Ok :=
  State.ok_iff.2 ⟨State.resetWith_steady c ops hm, fun _ => rfl, State.placeOk_idle rfl⟩

theorem State.resetWith_outOk (c : Config) (m : Memory) (ops : List HostOp) :
    (State.resetWith c m ops).outOk = true := by
  simp [State.outOk, State.resetWith]

/-- Settles O50: the reset records are silent, every count is at its parameter, and nothing is written. -/
theorem resetIsGood : Obligations.ResetIsGood := by
  unfold Obligations.ResetIsGood
  exact ⟨fun c m ops hm => ⟨State.resetWith_ok c ops hm, State.resetWith_outOk c m ops⟩,
    State.resetWith_ok Config.tc1 [] rfl, State.resetWith_outOk Config.tc1 _ []⟩

end Sys2Proof.Machine
end

/-! SUPPORT. RENDER over many steps: the output block in order, the ticks in which no STEP falls, a RENDER to its end,
and the stalled interpreter (44_render_step.md R195 to R202; 70_reset_and_hazards.md R251, R255). -/

section
namespace Sys2Proof.Machine

open Sys2Proof.Claims

/-! What stage 1 of a tick leaves alone (44_render_step.md R197). -/

section Countdown

variable (s : State) (i : Nat)

theorem State.countdown_cursor : (s.countdown i).cursor = s.cursor := by
  obtain ⟨-, -, -, h⟩ | ⟨-, -, -, h⟩ | ⟨-, h⟩ := s.countdown_cases i <;> rw [h]
theorem State.countdown_scorePlaying : (s.countdown i).scorePlaying = s.scorePlaying := by
  obtain ⟨-, -, -, h⟩ | ⟨-, -, -, h⟩ | ⟨-, h⟩ := s.countdown_cases i <;> rw [h]
theorem State.countdown_lfsr : (s.countdown i).lfsr = s.lfsr := by
  obtain ⟨-, -, -, h⟩ | ⟨-, -, -, h⟩ | ⟨-, h⟩ := s.countdown_cases i <;> rw [h]
theorem State.countdown_cfg : (s.countdown i).cfg = s.cfg := by
  obtain ⟨-, -, -, h⟩ | ⟨-, -, -, h⟩ | ⟨-, h⟩ := s.countdown_cases i <;> rw [h]
theorem State.countdown_out : (s.countdown i).out = s.out := by
  obtain ⟨-, -, -, h⟩ | ⟨-, -, -, h⟩ | ⟨-, h⟩ := s.countdown_cases i <;> rw [h]
theorem State.countdown_script : (s.countdown i).script = s.script := by
  obtain ⟨-, -, -, h⟩ | ⟨-, -, -, h⟩ | ⟨-, h⟩ := s.countdown_cases i <;> rw [h]

end Countdown

/-! The output block (20_memory.md R66). -/

/-- The first `i` entries are written and no other. -/
def WrittenBelow (i : Nat) (out : List (Option Sample)) : Prop :=
  (∀ x ∈ out.take i, x ≠ none) ∧ ∀ x ∈ out.drop i, x = none

/-- The block stands in tick `i`: before its countdown, in its STEP, or before its mix. -/
def Activity.InTick (i : Nat) (a : Activity) : Prop := a = .tick i ∨ a = .mix i ∨ a = .interp (.tick i)

theorem State.outOk_inTick {s : State} {i : Nat} (h : s.activity.InTick i) :
    s.outOk = true ↔ WrittenBelow i s.out := by
  obtain hact | hact | hact := h <;>
    simp [State.outOk, hact, WrittenBelow, Option.isSome_iff_ne_none]

theorem State.outOk_outside {s : State} (h : s.activity = .idle ∨ s.activity = .interp .start) :
    s.outOk = true ↔ (∀ x ∈ s.out, x = none) ∨ ∀ x ∈ s.out, x ≠ none := by
  obtain hact | hact := h <;> simp [State.outOk, hact, Option.isSome_iff_ne_none]

theorem WrittenBelow.set {i : Nat} {out : List (Option Sample)} (h : WrittenBelow i out) (hi : i < out.length)
    (x : Sample) : WrittenBelow (i + 1) (out.set i (some x)) := by
  obtain ⟨hsome, hnone⟩ := h
  constructor
  · intro y hy
    rw [List.take_succ_eq_append_getElem (by simpa using hi), List.take_set_of_le le_rfl, List.getElem_set_self,
      List.mem_append, List.mem_singleton] at hy
    obtain hold | rfl := hy
    · exact hsome y hold
    · exact Option.some_ne_none x
  · intro y hy
    rw [List.drop_set_of_lt (Nat.lt_succ_self i), Nat.succ_eq_add_one, ← List.drop_drop] at hy
    exact hnone y (List.mem_of_mem_drop hy)

theorem WrittenBelow.all {i : Nat} {out : List (Option Sample)} (h : WrittenBelow i out) (hi : out.length ≤ i) :
    ∀ x ∈ out, x ≠ none := by
  obtain ⟨hsome, -⟩ := h
  rwa [List.take_of_length_le hi] at hsome

theorem WrittenBelow.zero {out : List (Option Sample)} (h : ∀ x ∈ out, x = none) : WrittenBelow 0 out :=
  ⟨by simp, h⟩

section Output

variable {s : State} {i : Nat}

/-- The mix of tick `i` writes entry `i`; in the last tick that was the last entry missing. -/
theorem State.finishTick_written (hok : s.Ok) (hact : s.activity = .mix i) (hout : s.outOk = true) :
    i < s.cfg.params.block ∧ WrittenBelow (i + 1) (s.finishTick i).out := by
  obtain ⟨hsteady, -, hplace⟩ := State.ok_iff.1 hok
  have hi := (State.placeOk_mix hact).1 hplace
  exact ⟨hi, ((State.outOk_inTick (.inr (.inl hact))).1 hout).set (hsteady.out ▸ hi) _⟩

theorem State.finishTick_outOk (hok : s.Ok) (hact : s.activity = .mix i) (hout : s.outOk = true) :
    (s.finishTick i).outOk = true := by
  obtain ⟨hi, hwritten⟩ := State.finishTick_written hok hact hout
  obtain ⟨hsteady, -, -⟩ := State.ok_iff.1 (hok.finishTick i)
  by_cases hlast : i + 1 < s.cfg.params.block
  · have hnext := (s.finishTick_activity i).trans (if_pos hlast)
    exact (State.outOk_inTick (.inl hnext)).2 hwritten
  · have hnext := (s.finishTick_activity i).trans (if_neg hlast)
    have hlen : (s.finishTick i).out.length ≤ i + 1 := hsteady.out.trans_le (Nat.not_lt.1 hlast)
    exact (State.outOk_outside (.inl hnext)).2 (.inr (hwritten.all hlen))

/-- The step that ends the last tick leaves the whole block written (44_render_step.md R201). -/
theorem State.finishTick_full (hok : s.Ok) (hact : s.activity = .mix i) (hout : s.outOk = true)
    (hidle : (s.finishTick i).activity = .idle) :
    i + 1 = s.cfg.params.block ∧ (s.finishTick i).out.length = s.cfg.params.block ∧
      ∀ x ∈ (s.finishTick i).out, x ≠ none := by
  obtain ⟨hi, hwritten⟩ := State.finishTick_written hok hact hout
  obtain ⟨hsteady, -, -⟩ := State.ok_iff.1 (hok.finishTick i)
  have hlen : (s.finishTick i).out.length = s.cfg.params.block := hsteady.out
  have hlast : ¬ i + 1 < s.cfg.params.block := fun hmore => by
    rw [State.finishTick_activity, if_pos hmore] at hidle
    cases hidle
  exact ⟨by omega, hlen, hwritten.all (by omega)⟩

theorem State.countdown_inTick (s : State) (i : Nat) : (s.countdown i).activity.InTick i := by
  obtain hact | hact := s.countdown_activity i
  · exact .inr (.inr hact)
  · exact .inr (.inl hact)

theorem Executes.inTick {t : State} {ins : Instr} (h : Executes s ins t) (hact : s.activity = .interp (.tick i)) :
    t.activity.InTick i := by
  obtain hact' | hact' := h.activity_of_tick hact
  · exact .inr (.inr hact')
  · exact .inr (.inl hact')

theorem Executes.outOk {t : State} {ins : Instr} {c : Caller} (h : Executes s ins t) (hact : s.activity = .interp c)
    (hout : s.outOk = true) : t.outOk = true := by
  cases c with
  | start =>
    rw [State.outOk_outside (.inr hact)] at hout
    rw [State.outOk_outside (h.activity_of_start hact).symm, h.out_eq]
    exact hout
  | tick i =>
    rw [State.outOk_inTick (.inr (.inr hact))] at hout
    rw [State.outOk_inTick (h.inTick hact), h.out_eq]
    exact hout

/-- A transaction leaves the block as the RENDER before it did, or forgets it (log entry 5). -/
theorem State.host_outOk (hact : s.activity = .idle) (hout : s.outOk = true) (op : HostOp) :
    (s.host op).outOk = true := by
  have hwhole := (State.outOk_outside (.inl hact)).1 hout
  cases op with
  | start base override => exact (State.outOk_outside (.inr rfl)).2 hwhole
  | stop =>
    obtain heq | heq := s.host_stop_eq <;> rw [heq]
    · exact hout
    · exact (State.outOk_outside (s := s.haltScore) (.inl hact)).2 hwhole
  | isPlaying => exact (State.outOk_outside (s := s.reply) (.inl hact)).2 hwhole
  | render =>
    exact (State.outOk_inTick (s := s.beginRender) (.inl rfl)).2 (.zero fun x hx => List.eq_of_mem_replicate hx)
  | writeScore a b => exact (State.outOk_outside (s := s.host (.writeScore a b)) (.inl hact)).2 hwhole
  | reset => exact (State.outOk_outside (s := s.powerOn) (.inl rfl)).2 hwhole

end Output

/-- Settles O58: only a mix writes an entry and only RENDER forgets them. -/
theorem outputIsWrittenInOrder : Obligations.OutputIsWrittenInOrder := by
  unfold Obligations.OutputIsWrittenInOrder
  intro s t hok hout hstep
  refine ⟨?kept, fun i hact hidle => ?full⟩
  case kept =>
    obtain ⟨-, -, rfl⟩ | ⟨op, rest, hidle, -, rfl⟩ | ⟨c, hact, hexec⟩ | ⟨i, hact, rfl⟩ | ⟨i, hact, rfl⟩ :=
      step_cases hstep
    · exact hout
    · exact State.host_outOk (s := { s with script := rest }) hidle hout op
    · exact hexec.outOk hact hout
    · rw [State.outOk_inTick (s.countdown_inTick i), s.countdown_out]
      exact (State.outOk_inTick (.inl hact)).1 hout
    · exact State.finishTick_outOk hok hact hout
  case full =>
    obtain rfl : s.finishTick i = t := Host.Outcome.next.inj ((step_of_mix hact).symm.trans hstep)
    exact State.finishTick_full hok hact hout hidle

/-! Runs. -/

theorem runsTo_add {j k : Nat} {s u t : State} (hsu : RunsTo j s u) (hut : RunsTo k u t) : RunsTo (k + j) s t := by
  induction j generalizing s with
  | zero =>
    obtain rfl : s = u := Host.Outcome.next.inj hsu
    exact hut
  | succ j ih =>
    obtain ⟨s', hstep⟩ := step_next s
    exact (runsTo_succ hstep).2 (ih ((runsTo_succ hstep).1 hsu))

/-- What every step keeps, every run keeps. -/
theorem runsTo_keeps {P : State → Prop} (hP : ∀ s t, P s → step s = .next t → P t) {k : Nat} {s t : State}
    (h : P s) (hrun : RunsTo k s t) : P t := by
  induction k generalizing s with
  | zero =>
    obtain rfl : s = t := Host.Outcome.next.inj hrun
    exact h
  | succ k ih =>
    obtain ⟨s', hstep⟩ := step_next s
    exact ih (hP s s' h hstep) ((runsTo_succ hstep).1 hrun)

/-- The invariants and the order of the output block, along any run. -/
theorem runsTo_ok {k : Nat} {s t : State} (hok : s.Ok) (hout : s.outOk = true) (hrun : RunsTo k s t) :
    t.Ok ∧ t.outOk = true :=
  runsTo_keeps (P := fun s => s.Ok ∧ s.outOk = true)
    (fun s t ⟨hok, hout⟩ hstep =>
      ⟨stepKeepsTheInvariants s t hok hstep, (outputIsWrittenInOrder s t hok hout hstep).1⟩)
    ⟨hok, hout⟩ hrun

/-! A RENDER to its end. -/

/-- A good state inside a RENDER, with `rest` of the script still to do. -/
structure Rendering (c : Config) (rest : List HostOp) (s : State) : Prop where
  ok : s.Ok
  outOk : s.outOk = true
  cfg : s.cfg = c
  script : s.script = rest
  inTick : ∃ i, s.activity.InTick i

/-- The state after a RENDER: idle, the block full, with `rest` of the script still to do. -/
structure Rendered (c : Config) (rest : List HostOp) (s : State) : Prop where
  idle : s.activity = .idle
  script : s.script = rest
  length : s.out.length = c.params.block
  full : ∀ x ∈ s.out, x ≠ none

theorem Activity.InTick.ne_idle {a : Activity} {i : Nat} (h : a.InTick i) : a ≠ .idle := by
  obtain rfl | rfl | rfl := h <;> exact fun h => nomatch h

theorem rendering_of_render {s : State} {rest : List HostOp} (hok : s.Ok) (hidle : s.activity = .idle) :
    Rendering s.cfg rest (({ s with script := rest } : State).host .render) where
  ok := State.Ok.host (s := { s with script := rest }) hidle hok .render
  outOk := (State.outOk_inTick (.inl rfl)).2 (.zero fun _ hx => List.eq_of_mem_replicate hx)
  cfg := rfl
  script := rfl
  inTick := ⟨0, .inl rfl⟩

/-- A step inside a RENDER stays inside or completes it. -/
theorem Rendering.step {c : Config} {rest : List HostOp} {s t : State} (h : Rendering c rest s)
    (hstep : step s = .next t) : Rendering c rest t ∨ Rendered c rest t := by
  obtain ⟨hok, hout, rfl, rfl, i, hin⟩ := h
  have hok' := stepKeepsTheInvariants s t hok hstep
  obtain ⟨hout', -⟩ := outputIsWrittenInOrder s t hok hout hstep
  obtain hact | hact | hact := hin
  · obtain rfl : s.countdown i = t := Host.Outcome.next.inj ((step_of_tick hact).symm.trans hstep)
    exact .inl ⟨hok', hout', s.countdown_cfg i, s.countdown_script i, i, s.countdown_inTick i⟩
  · obtain rfl : s.finishTick i = t := Host.Outcome.next.inj ((step_of_mix hact).symm.trans hstep)
    by_cases hlast : i + 1 < s.cfg.params.block
    · exact .inl ⟨hok', hout', rfl, rfl, i + 1, .inl ((s.finishTick_activity i).trans (if_pos hlast))⟩
    · have hidle := (s.finishTick_activity i).trans (if_neg hlast)
      obtain ⟨-, hlen, hfull⟩ := State.finishTick_full hok hact hout hidle
      exact .inr ⟨hidle, rfl, hlen, hfull⟩
  · have hexec := executes_of_exec ((step_of_interp hact).symm.trans hstep)
    exact .inl ⟨hok', hout', hexec.cfg_eq, hexec.script_eq, i, hexec.inTick hact⟩

/-- The first idle state after a state inside a RENDER is the one that completed it. -/
theorem Rendering.first_idle {c : Config} {rest : List HostOp} {k : Nat} {s t : State} (h : Rendering c rest s)
    (hrun : RunsTo k s t) (hidle : t.activity = .idle)
    (hfirst : ∀ j u, j < k → RunsTo j s u → u.activity ≠ .idle) : Rendered c rest t := by
  induction k generalizing s with
  | zero =>
    obtain rfl : s = t := Host.Outcome.next.inj hrun
    obtain ⟨i, hin⟩ := h.inTick
    exact absurd hidle hin.ne_idle
  | succ k ih =>
    obtain ⟨s', hstep⟩ := step_next s
    have hrun' := (runsTo_succ hstep).1 hrun
    have hfirst' (j : Nat) (u : State) (hj : j < k) (hu : RunsTo j s' u) : u.activity ≠ .idle :=
      hfirst (j + 1) u (by omega) ((runsTo_succ hstep).2 hu)
    obtain hinside | hdone := h.step hstep
    · exact ih hinside hrun' hfirst'
    · cases k with
      | zero =>
        obtain rfl : s' = t := Host.Outcome.next.inj hrun'
        exact hdone
      | succ k => exact absurd hdone.idle (hfirst' 0 s' (by omega) (runsTo_zero s'))

/-- Settles O59: RENDER begins inside tick 0, and the first idle state after that completes it. -/
theorem completedRenderFilledTheBlock : Obligations.CompletedRenderFilledTheBlock := by
  unfold Obligations.CompletedRenderFilledTheBlock
  intro s t rest k hok hidle hscript hk hrun ht hfirst
  obtain ⟨k, rfl⟩ := Nat.exists_eq_succ_of_ne_zero hk.ne'
  have hstep := step_of_script hidle hscript
  have hdone := (rendering_of_render (rest := rest) hok hidle).first_idle ((runsTo_succ hstep).1 hrun) ht
    fun j u hj hu => hfirst (j + 1) u (by omega) (by omega) ((runsTo_succ hstep).2 hu)
  exact ⟨hdone.script, hdone.length, hdone.full⟩

/-! Ticks in which no STEP falls (44_render_step.md R197, R198). -/

section Quiet

variable {s : State} {i : Nat}

/-- A tick whose countdown does not expire is two steps. -/
theorem runsTo_tick (hact : s.activity = .tick i) (hmix : (s.countdown i).activity = .mix i) :
    RunsTo 2 s ((s.countdown i).finishTick i) :=
  (runsTo_succ (step_of_tick hact)).2 ((runsTo_succ (step_of_mix hmix)).2 (runsTo_zero _))

/-- No countdown is active, or one that does not expire in the next tick. -/
theorem State.countdown_quiet (i : Nat)
    (hwait : s.waitTicks.toNat = 0 ∨ s.scorePlaying = true ∧ 1 < s.waitTicks.toNat) :
    (s.countdown i).activity = .mix i ∧ (s.countdown i).waitTicks.toNat = s.waitTicks.toNat - 1 := by
  obtain hzero | ⟨hplay, hmore⟩ := hwait
  · rw [State.countdown_inactive i (.inr (BitVec.eq_of_toNat_eq hzero))]
    exact ⟨rfl, by simp [hzero]⟩
  · have hne : s.waitTicks ≠ 0 := fun h => by simp [h] at hmore
    obtain ⟨hdown, -, hmix⟩ := State.countdown_active i hplay hne
    exact ⟨hmix (by omega), by omega⟩

/-- `t` is `s` at a later place `a`, with `k` counts gone from its countdown and no command run between. -/
structure Later (s : State) (a : Activity) (k : Nat) (t : State) : Prop where
  activity : t.activity = a
  waitTicks : t.waitTicks.toNat = s.waitTicks.toNat - k
  cursor : t.cursor = s.cursor
  scorePlaying : t.scorePlaying = s.scorePlaying
  lfsr : t.lfsr = s.lfsr
  cfg : t.cfg = s.cfg
  script : t.script = s.script

theorem Later.countdown {k : Nat} {u : State} (h : Later s (.tick i) k u)
    (hwait : s.waitTicks.toNat = 0 ∨ s.scorePlaying = true ∧ k + 1 < s.waitTicks.toNat) :
    Later s (.mix i) (k + 1) (u.countdown i) := by
  have hcount := h.waitTicks
  obtain ⟨hmix, hdown⟩ := u.countdown_quiet i
    (hwait.imp (by omega) fun ⟨hplay, hk⟩ => ⟨h.scorePlaying.trans hplay, by omega⟩)
  exact ⟨hmix, by omega, (u.countdown_cursor i).trans h.cursor, (u.countdown_scorePlaying i).trans h.scorePlaying,
    (u.countdown_lfsr i).trans h.lfsr, (u.countdown_cfg i).trans h.cfg, (u.countdown_script i).trans h.script⟩

theorem Later.finishTick {k : Nat} {u : State} {a : Activity} (h : Later s (.mix i) k u)
    (ha : (if i + 1 < s.cfg.params.block then .tick (i + 1) else .idle) = a) : Later s a k (u.finishTick i) :=
  ⟨(u.finishTick_activity i).trans (h.cfg ▸ ha), h.waitTicks, h.cursor, h.scorePlaying, h.lfsr, h.cfg, h.script⟩

theorem runsTo_quiet_ticks {k : Nat} (hact : s.activity = .tick i) (hblock : i + k < s.cfg.params.block)
    (hwait : s.waitTicks.toNat = 0 ∨ s.scorePlaying = true ∧ k < s.waitTicks.toNat) :
    ∃ t, RunsTo (2 * k) s t ∧ Later s (.tick (i + k)) k t := by
  induction k with
  | zero => exact ⟨s, runsTo_zero s, hact, rfl, rfl, rfl, rfl, rfl, rfl⟩
  | succ k ih =>
    obtain ⟨u, hrun, hu⟩ := ih (by omega) (hwait.imp_right fun ⟨hplay, hk⟩ => ⟨hplay, by omega⟩)
    have hmix := hu.countdown hwait
    have hboth := runsTo_add hrun (runsTo_tick hu.activity hmix.activity)
    rw [show 2 * (k + 1) = 2 + 2 * k by omega]
    exact ⟨_, hboth, hmix.finishTick (if_pos hblock)⟩

/-- The mix of the last tick of a block in which the countdown does not expire. -/
theorem runsTo_last_mix (hact : s.activity = .tick 0)
    (hwait : s.waitTicks.toNat = 0 ∨ s.scorePlaying = true ∧ s.cfg.params.block < s.waitTicks.toNat) :
    ∃ t, RunsTo (2 * s.cfg.params.block - 1) s t ∧
      Later s (.mix (s.cfg.params.block - 1)) s.cfg.params.block t := by
  obtain ⟨-, -, hblock, -⟩ := ranges s.cfg
  obtain ⟨u, hrun, hu⟩ := runsTo_quiet_ticks (k := s.cfg.params.block - 1) hact (by omega)
    (hwait.imp_right fun ⟨hplay, hlong⟩ => ⟨hplay, by omega⟩)
  rw [Nat.zero_add] at hu
  have hmix := hu.countdown (by rwa [Nat.sub_add_cancel hblock])
  rw [Nat.sub_add_cancel hblock] at hmix
  have hlast := runsTo_add hrun ((runsTo_succ (step_of_tick hu.activity)).2 (runsTo_zero _))
  rw [show 2 * s.cfg.params.block - 1 = 1 + 2 * (s.cfg.params.block - 1) by omega]
  exact ⟨_, hlast, hmix⟩

end Quiet

/-- Settles O47: T - 1 quiet ticks, and the stage 1 in which the count reaches 0. -/
theorem waitExpiresInItsTick : Obligations.WaitExpiresInItsTick := by
  unfold Obligations.WaitExpiresInItsTick
  intro s i T hact hplay hT hone hblock
  have hquiet (k : Nat) (hk : k < T) : ∃ t, RunsTo (2 * k) s t ∧ Later s (.tick (i + k)) k t :=
    runsTo_quiet_ticks hact (by omega) (.inr ⟨hplay, by omega⟩)
  refine ⟨fun k hk => ?before, ?expiry⟩
  case before =>
    obtain ⟨t, hrun, ht⟩ := hquiet k hk
    exact ⟨t, hrun, ht.activity, hT ▸ ht.waitTicks, ht.cursor⟩
  case expiry =>
    obtain ⟨u, hrun, hu⟩ := hquiet (T - 1) (by omega)
    have hleft : u.waitTicks.toNat = 1 := by rw [hu.waitTicks]; omega
    have hne : u.waitTicks ≠ 0 := fun h => by simp [h] at hleft
    obtain ⟨hdown, hstep, -⟩ := State.countdown_active (i + (T - 1)) (hu.scorePlaying.trans hplay) hne
    have hlast : RunsTo 1 u (u.countdown (i + (T - 1))) :=
      (runsTo_succ (step_of_tick hu.activity)).2 (runsTo_zero _)
    refine ⟨u.countdown (i + (T - 1)), ?run, ?place, ?count, (u.countdown_cursor _).trans hu.cursor,
      (u.countdown_scorePlaying _).trans (hu.scorePlaying.trans hplay)⟩
    case run => exact Nat.add_comm _ 1 ▸ runsTo_add hrun hlast
    case place => exact Nat.add_sub_assoc hone i ▸ hstep hleft
    case count => exact BitVec.eq_of_toNat_eq (by simp; omega)

/-- Settles O46: the run to the last mix, which fills the block. -/
theorem renderFillsTheBlock : Obligations.RenderFillsTheBlock := by
  unfold Obligations.RenderFillsTheBlock
  intro s rest hok hidle hscript hwait
  obtain ⟨-, -, hblock, -⟩ := ranges s.cfg
  obtain ⟨-, hplay, -⟩ := State.ok_iff.1 hok
  have hactive : s.waitTicks.toNat = 0 ∨ s.scorePlaying = true ∧ s.cfg.params.block < s.waitTicks.toNat := by
    refine hwait.imp_right fun hlong => ⟨?_, hlong⟩
    by_contra hoff
    simp [hplay (eq_false_of_ne_true hoff)] at hlong
  have hbegun := rendering_of_render (rest := rest) hok hidle
  obtain ⟨u, hrun, hu⟩ := runsTo_last_mix (s := ({ s with script := rest } : State).host .render) rfl hactive
  obtain ⟨huok, huout⟩ := runsTo_ok hbegun.ok hbegun.outOk hrun
  have hends := hu.finishTick (if_neg (by simp [State.host, Nat.sub_add_cancel hblock]))
  obtain ⟨-, hlen, hfull⟩ := State.finishTick_full huok hu.activity huout hends.activity
  refine ⟨_, ?run, hends.activity, hends.script, hlen.trans (by rw [hu.cfg]; rfl), hfull, hends.cursor,
    hends.scorePlaying, hends.lfsr, hends.waitTicks⟩
  case run =>
    rw [runsTo_succ (step_of_script hidle hscript),
      show 2 * s.cfg.params.block = 1 + (2 * s.cfg.params.block - 1) by omega]
    exact runsTo_add hrun ((runsTo_succ (step_of_mix hu.activity)).2 (runsTo_zero _))

/-! RENDER from reset (70_reset_and_hazards.md R251). -/

section Silent

/-- The state after reset, in a RENDER of which `i` ticks are done. -/
def State.silentRender (c : Config) (m : Memory) (ops : List HostOp) (i : Nat) : State :=
  { State.resetWith c m ops with
    out := List.replicate i (some 0) ++ List.replicate (c.params.block - i) none
    activity := if i < c.params.block then .tick i else .idle }

variable {c : Config} {m : Memory} {ops : List HostOp} {i : Nat}

/-- With no voice playing, stages 2 and 3 write a zero and move on (43_mixer.md R189). -/
theorem State.finishTick_of_silent {s : State} (i : Nat) (h : ∀ v ∈ s.voices, v.playing = false) :
    s.finishTick i =
      { s with
        out := s.out.set i (some 0), prevActive := 0
        activity := if i + 1 < s.cfg.params.block then .tick (i + 1) else .idle } := by
  have hbelow : ∀ v ∈ s.voices.take s.nv.toNat, v.playing = false := fun v hv => h v (List.mem_of_mem_take hv)
  have hvoices : s.voices.map (advanceVoice s.cfg) = s.voices :=
    (List.map_congr_left (g := id) fun v hv => advanceVoice_silent s.cfg (h v hv)).trans (List.map_id _)
  simp only [State.finishTick, State.mixStage, State.advanceStage, State.endTick, State.setVoices, State.writeOut,
    State.mixSample_of_silent hbelow, State.activeCount_of_silent hbelow, hvoices]

theorem set_first_none {i k : Nat} (hi : i < k) (x : Sample) :
    (List.replicate i (some x) ++ List.replicate (k - i) none).set i (some x) =
      List.replicate (i + 1) (some x) ++ List.replicate (k - (i + 1)) none := by
  obtain ⟨j, rfl⟩ := Nat.exists_eq_add_of_lt hi
  have hsub : i + j + 1 - i = j + 1 := by omega
  have hsub' : i + j + 1 - (i + 1) = j := by omega
  rw [hsub, hsub', List.set_append_right _ _ (by simp), List.length_replicate, Nat.sub_self, List.replicate_succ,
    List.set_cons_zero, List.replicate_succ', List.append_assoc]
  rfl

/-- Tick `i` writes the next zero and leaves every register as it was reset. -/
theorem State.silentRender_tick (hi : i < c.params.block) :
    RunsTo 2 (State.silentRender c m ops i) (State.silentRender c m ops (i + 1)) := by
  have hact : (State.silentRender c m ops i).activity = .tick i := if_pos hi
  have hcount := State.countdown_inactive (s := State.silentRender c m ops i) i (.inl rfl)
  have hrun := runsTo_tick hact (by rw [hcount])
  rw [hcount, State.finishTick_of_silent i fun v hv => by
    rw [State.eq_reset_of_mem_resetWith_voices c m ops hv]; rfl] at hrun
  have hnext : State.silentRender c m ops (i + 1) =
      { State.silentRender c m ops i with
        out := (State.silentRender c m ops i).out.set i (some 0), prevActive := 0
        activity := if i + 1 < c.params.block then .tick (i + 1) else .idle } := by
    simp only [State.silentRender, set_first_none hi]
    rfl
  rw [hnext]
  exact hrun

theorem State.silentRender_ticks (hi : i ≤ c.params.block) :
    RunsTo (2 * i) (State.silentRender c m ops 0) (State.silentRender c m ops i) := by
  induction i with
  | zero => exact runsTo_zero _
  | succ i ih =>
    rw [show 2 * (i + 1) = 2 + 2 * i by omega]
    exact runsTo_add (ih (by omega)) (State.silentRender_tick (by omega))

/-- Settles O45: RENDER begins, and each of BLOCK ticks writes the next zero. -/
theorem renderAfterResetIsSilent : Obligations.RenderAfterResetIsSilent := by
  unfold Obligations.RenderAfterResetIsSilent
  intro c m rest
  obtain ⟨-, -, hblock, -⟩ := ranges c
  have hbegin : step (State.resetWith c m (.render :: rest)) = .next (State.silentRender c m rest 0) := by
    rw [step_of_script rfl rfl, State.silentRender, if_pos (Nat.lt_of_succ_le hblock)]
    rfl
  have hend : State.silentRender c m rest c.params.block =
      { State.resetWith c m rest with out := List.replicate c.params.block (some 0) } := by
    rw [State.silentRender, if_neg (Nat.lt_irrefl _), Nat.sub_self, List.replicate_zero, List.append_nil]
    rfl
  rw [runsTo_succ hbegin, ← hend]
  exact State.silentRender_ticks le_rfl

end Silent

/-! The stalled interpreter (70_reset_and_hazards.md R255). -/

/-- `t` is `s` while the interpreter stalls: the score plays, no countdown is active, STEP is not in progress, and the
replies given since are ones. -/
structure Stalled (s t : State) : Prop where
  scorePlaying : t.scorePlaying = true
  waitTicks : t.waitTicks = 0
  cursor : t.cursor = s.cursor
  lfsr : t.lfsr = s.lfsr
  outside : ∀ c, t.activity ≠ .interp c
  host : HostOnlyRenders t
  replies : ∃ n, t.replies = s.replies ++ List.replicate n true

/-- A stage 1 with no countdown does not invoke STEP, and neither does a mix, a RENDER or a reply. -/
theorem Stalled.step {s t t' : State} (h : Stalled s t) (hstep : step t = .next t') : Stalled s t' := by
  obtain ⟨hplay, hwait, hcursor, hlfsr, hout, hhost, n, hreplies⟩ := h
  obtain ⟨-, -, rfl⟩ | ⟨op, rest, hidle, hscript, rfl⟩ | ⟨c, hact, -⟩ | ⟨i, -, rfl⟩ | ⟨i, -, rfl⟩ := step_cases hstep
  · exact ⟨hplay, hwait, hcursor, hlfsr, hout, hhost, n, hreplies⟩
  · have hrest : ∀ op ∈ rest, op = .render ∨ op = .isPlaying := fun op hop =>
      hhost op (hscript ▸ List.mem_cons_of_mem _ hop)
    obtain rfl | rfl := hhost op (hscript ▸ List.mem_cons_self)
    · exact ⟨hplay, hwait, hcursor, hlfsr, (fun _ hc => nomatch hc), hrest, n, hreplies⟩
    · refine ⟨hplay, hwait, hcursor, hlfsr, hout, hrest, n + 1, ?_⟩
      simp only [State.host, State.reply_replies]
      rw [hreplies, hplay, List.append_assoc, List.replicate_succ']
  · exact absurd hact (hout c)
  · rw [State.countdown_inactive i (.inr hwait)]
    exact ⟨hplay, hwait, hcursor, hlfsr, (fun _ hc => nomatch hc), hhost, n, hreplies⟩
  · refine ⟨hplay, hwait, hcursor, hlfsr, fun c hc => ?_, hhost, n, hreplies⟩
    rw [State.finishTick_activity] at hc
    split at hc <;> cases hc

/-- Settles O48: every step keeps the stall. -/
theorem zeroWaitStallsTheInterpreter : Obligations.ZeroWaitStallsTheInterpreter := by
  unfold Obligations.ZeroWaitStallsTheInterpreter
  intro s k hplay hwait hout hhost
  obtain ⟨t, hrun⟩ := noRunStops k s
  have hstalled : Stalled s t := runsTo_keeps (P := Stalled s) (fun _ _ => Stalled.step)
    ⟨hplay, hwait, rfl, rfl, hout, hhost, 0, by simp⟩ hrun
  exact ⟨t, hrun, hstalled.scorePlaying, hstalled.waitTicks, hstalled.cursor, hstalled.lfsr, hstalled.outside,
    hstalled.replies⟩

end Sys2Proof.Machine
end

/-! SUPPORT. Machines that agree but for BLOCK and their place in it (44_render_step.md R201): no operation reads BLOCK
but the end of a tick, so each keeps the agreement. -/

section
namespace Sys2Proof.Machine

open Sys2Proof.Claims

/-! What reads a configuration without its BLOCK. -/

/-- A function that does not look at BLOCK has the same value in both configurations. -/
theorem eq_of_sameButBlock {α : Type} (f : Config → α) {c c' : Config} (h : SameButBlock c c')
    (hf : ∀ b hok, f ⟨{ c.params with block := b }, hok⟩ = f c) : f c' = f c := by
  obtain ⟨p', hok⟩ := c'
  have h : { c.params with block := p'.block } = p' := h
  generalize p'.block = b at h
  subst h
  exact hf b hok

/-! Stage 1, by what the countdown is (44_render_step.md R197). -/

theorem State.countdown_expired {s : State} (i : Nat) (hplay : s.scorePlaying = true) (hwait : s.waitTicks ≠ 0)
    (hone : s.waitTicks - 1 = 0) : s.countdown i = { s with waitTicks := 0, activity := .interp (.tick i) } := by
  obtain ⟨-, -, -, h⟩ | ⟨-, -, hmore, -⟩ | ⟨hoff, -⟩ := s.countdown_cases i
  · exact h
  · exact absurd hone hmore
  · exact absurd hoff (State.not_inactive hplay hwait)

theorem State.countdown_running {s : State} (i : Nat) (hplay : s.scorePlaying = true) (hwait : s.waitTicks ≠ 0)
    (hmore : s.waitTicks - 1 ≠ 0) :
    s.countdown i = { s with waitTicks := s.waitTicks - 1, activity := .mix i } := by
  obtain ⟨-, -, hone, -⟩ | ⟨-, -, -, h⟩ | ⟨hoff, -⟩ := s.countdown_cases i
  · exact absurd hone hmore
  · exact h
  · exact absurd hoff (State.not_inactive hplay hwait)

/-! The agreement, operation by operation. -/

/-- `s` and `t` agree on every register, so they agree on what is computed from them. -/
structure State.Agree (s t : State) : Prop where
  cfg : SameButBlock s.cfg t.cfg
  score : t.score = s.score
  voices : t.voices = s.voices
  cursor : t.cursor = s.cursor
  startPtr : t.startPtr = s.startPtr
  waitTicks : t.waitTicks = s.waitTicks
  scorePlaying : t.scorePlaying = s.scorePlaying
  volPresent : t.volPresent = s.volPresent
  nv : t.nv = s.nv
  prevActive : t.prevActive = s.prevActive
  lfsr : t.lfsr = s.lfsr

theorem State.agree_iff {s t : State} : s.Agree t ↔ SameMachine s t :=
  ⟨fun ⟨hc, hs, hv, hcu, hsp, hw, hp, hvol, hnv, hpa, hl⟩ => ⟨hc, hs, hv, hcu, hsp, hw, hp, hvol, hnv, hpa, hl⟩,
    fun ⟨hc, hs, hv, hcu, hsp, hw, hp, hvol, hnv, hpa, hl⟩ => ⟨hc, hs, hv, hcu, hsp, hw, hp, hvol, hnv, hpa, hl⟩⟩

namespace State.Agree

variable {s t : State} (h : s.Agree t)
include h

/-! The operations on the registers. -/

theorem advance (k : Nat) : (s.advance k).Agree (t.advance k) :=
  { h with cursor := congrArg (· + BitVec.ofNat 32 k) h.cursor }

theorem setVoice (u : Nat) (w : Voice) : (s.setVoice u w).Agree (t.setVoice u w) :=
  { h with voices := congrArg (·.set u w) h.voices }

theorem setLfsr (l : BitVec 8) : (s.setLfsr l).Agree (t.setLfsr l) := { h with lfsr := rfl }

theorem noteOff (u : Nat) : (s.noteOff u).Agree (t.noteOff u) := by
  simp only [State.noteOff, h.voices, eq_of_sameButBlock noteOffVoice h.cfg fun _ _ => rfl]
  split
  · exact h
  · exact h.setVoice u _

theorem selectInstrument (u : Nat) (k : Byte) : (s.selectInstrument u k).Agree (t.selectInstrument u k) := by
  simp only [State.selectInstrument, h.voices]
  split
  · exact h
  · exact h.setVoice u _

theorem noteOn (u : Nat) (n vel : Byte) : (s.noteOn u n vel).Agree (t.noteOn u n vel) := by
  simp only [State.noteOn, h.voices, h.lfsr, eq_of_sameButBlock drumOf h.cfg fun _ _ => rfl,
    eq_of_sameButBlock percussionOn h.cfg fun _ _ => rfl, eq_of_sameButBlock melodicOn h.cfg fun _ _ => rfl]
  split
  · exact h
  · split
    · split
      · exact h
      · exact h.setVoice u _
    · exact (h.setLfsr _).setVoice u _

theorem ite {s' t' : State} (h' : s'.Agree t') (b : Bool) :
    (if b then s' else s).Agree (if b then t' else t) := by
  cases b with
  | false => exact h
  | true => exact h'

/-! A command, a countdown, a mix. -/

theorem inRange (u : BitVec 4) : t.inRange u = s.inRange u := by simp only [State.inRange, h.nv]

theorem fetched : t.fetched = s.fetched := by
  have hbytes : t.byteAt = s.byteAt := by
    funext k
    simp only [State.byteAt, h.score, h.cursor]
  rw [State.fetched, hbytes, h.volPresent, State.fetched]

/-- Each command does the same to both. -/
theorem command (i : Instr) : ∃ s' t', exec i s = .next s' ∧ exec i t = .next t' ∧ s'.Agree t' := by
  cases i with
  | wait ms =>
    refine ⟨_, _, exec_wait ms s, exec_wait ms t, { h.advance 2 with waitTicks := ?_ }⟩
    simp only [returnFromStep_waitTicks, setWait_waitTicks, eq_of_sameButBlock waitToTicks h.cfg fun _ _ => rfl]
  | stop x =>
    refine ⟨_, _, exec_stop x s, exec_stop x t,
      { h.advance 1 with voices := ?_, waitTicks := rfl, scorePlaying := rfl }⟩
    simp only [returnFromStep_voices, haltScore_voices, advance_voices, advance_cfg, h.voices,
      eq_of_sameButBlock noteOffVoice h.cfg fun _ _ => rfl]
  | restart x => exact ⟨_, _, exec_restart x s, exec_restart x t, { h with cursor := h.startPtr }⟩
  | rsvdA x => exact ⟨_, _, exec_rsvdA x s, exec_rsvdA x t, h.advance 1⟩
  | rsvdB x => exact ⟨_, _, exec_rsvdB x s, exec_rsvdB x t, h.advance 1⟩
  | rsvdD x => exact ⟨_, _, exec_rsvdD x s, exec_rsvdD x t, h.advance 1⟩
  | noteOff u =>
    refine ⟨_, _, rfl, rfl, ?_⟩
    rw [h.inRange]
    exact (h.advance 1).ite ((h.advance 1).noteOff _) _
  | noteOn u n =>
    refine ⟨_, _, rfl, rfl, ?_⟩
    rw [h.inRange, eq_of_sameButBlock defaultVelocity h.cfg fun _ _ => rfl]
    exact (h.advance 2).ite ((h.advance 2).noteOn _ _ _) _
  | noteOnVel u n vel =>
    refine ⟨_, _, rfl, rfl, ?_⟩
    rw [h.inRange]
    exact (h.advance 3).ite ((h.advance 3).noteOn _ _ _) _
  | instr u id =>
    refine ⟨_, _, rfl, rfl, ?_⟩
    rw [h.inRange, eq_of_sameButBlock patchOf h.cfg fun _ _ => rfl]
    refine (h.advance 2).ite ?_ _
    cases patchOf s.cfg id with
    | none => exact h.advance 2
    | some k => exact (h.advance 2).selectInstrument _ k

/-- Stage 1 does the same to both, and invokes STEP in both or in neither. -/
theorem countdown (i j : Nat) : (s.countdown i).Agree (t.countdown j) ∧
    ((s.countdown i).activity = .interp (.tick i) ∧ (t.countdown j).activity = .interp (.tick j) ∨
      (s.countdown i).activity = .mix i ∧ (t.countdown j).activity = .mix j) := by
  obtain ⟨hplay, hwait, hone, heq⟩ | ⟨hplay, hwait, hmore, heq⟩ | ⟨hoff, heq⟩ := s.countdown_cases i <;> rw [heq]
  · rw [← h.scorePlaying] at hplay
    rw [← h.waitTicks] at hwait hone
    rw [State.countdown_expired j hplay hwait hone]
    exact ⟨{ h with waitTicks := rfl }, .inl ⟨rfl, rfl⟩⟩
  · rw [← h.scorePlaying] at hplay
    rw [← h.waitTicks] at hwait hmore
    rw [State.countdown_running j hplay hwait hmore]
    exact ⟨{ h with waitTicks := congrArg (· - 1) h.waitTicks }, .inr ⟨rfl, rfl⟩⟩
  · rw [← h.scorePlaying, ← h.waitTicks] at hoff
    rw [State.countdown_inactive j hoff]
    exact ⟨{ h with }, .inr ⟨rfl, rfl⟩⟩

/-- The mixes write the same sample and count, and the advances do the same. -/
theorem finishTick (i j : Nat) : (s.finishTick i).Agree (t.finishTick j) ∧ t.mixSample = s.mixSample := by
  have hmixed : t.mixed = s.mixed := by simp only [State.mixed, h.voices, h.nv]
  have hacc : t.acc = s.acc := by
    simp only [State.acc, hmixed, eq_of_sameButBlock contrib h.cfg fun _ _ => rfl]
  have hindex : t.attenIndex = s.attenIndex := by
    simp only [State.attenIndex, h.prevActive, h.nv, eq_of_sameButBlock (·.params.dynamicAtten) h.cfg fun _ _ => rfl]
  constructor
  · refine { h with voices := ?_, prevActive := ?_ }
    · simp only [finishTick_voices, h.voices, eq_of_sameButBlock advanceVoice h.cfg fun _ _ => rfl]
    · simp only [finishTick_prevActive, State.activeCount, hmixed]
  · simp only [State.mixSample, hacc, hindex, eq_of_sameButBlock gain h.cfg fun _ _ => rfl]

end State.Agree

/-- Which command it is decides whether a STEP that a tick invoked goes on or returns. -/
theorem exec_stays_or_returns (ins : Instr) :
    (∀ s t i, s.activity = .interp (.tick i) → exec ins s = .next t → t.activity = .interp (.tick i)) ∨
    (∀ s t i, s.activity = .interp (.tick i) → exec ins s = .next t → t.activity = .mix i) := by
  by_cases hwait : ∃ ms, ins = .wait ms
  · obtain ⟨ms, rfl⟩ := hwait
    refine .inr fun s t i hact hexec => ?_
    obtain ⟨_, h, hact', -⟩ := exec_wait_of_tick ms hact
    exact Host.Outcome.next.inj (hexec.symm.trans h) ▸ hact'
  by_cases hstop : ∃ x, ins = .stop x
  · obtain ⟨x, rfl⟩ := hstop
    refine .inr fun s t i hact hexec => ?_
    obtain ⟨_, h, hact', -⟩ := exec_stop_of_tick x hact
    exact Host.Outcome.next.inj (hexec.symm.trans h) ▸ hact'
  · refine .inl fun s t i hact hexec => ?_
    obtain ⟨_, h, hact', -⟩ := exec_sameProgress s (not_exists.1 hwait) (not_exists.1 hstop)
    exact Host.Outcome.next.inj (hexec.symm.trans h) ▸ hact'.trans hact

/-- Settles O36: the three places of a tick, each by the operation done there. -/
theorem tickIgnoresBlockAndIndex : Obligations.TickIgnoresBlockAndIndex := by
  unfold Obligations.TickIgnoresBlockAndIndex
  intro s t s' t' i j hsame hs ht
  have h := State.agree_iff.2 hsame
  refine ⟨fun hact hact' => ?tick, fun hact hact' => ?interp, fun hact hact' => ?mix⟩
  case tick =>
    obtain rfl := Host.Outcome.next.inj ((step_of_tick hact).symm.trans hs)
    obtain rfl := Host.Outcome.next.inj ((step_of_tick hact').symm.trans ht)
    obtain ⟨hagree, hplace⟩ := h.countdown i j
    exact ⟨State.agree_iff.1 hagree, hplace⟩
  case interp =>
    obtain ⟨u, u', hu, hu', hagree⟩ := h.command s.fetched
    rw [step_of_interp hact] at hs
    rw [step_of_interp hact', h.fetched] at ht
    obtain rfl := Host.Outcome.next.inj (hu.symm.trans hs)
    obtain rfl := Host.Outcome.next.inj (hu'.symm.trans ht)
    refine ⟨State.agree_iff.1 hagree, ?_⟩
    obtain hstays | hreturns := exec_stays_or_returns s.fetched
    · exact .inl ⟨hstays s u i hact hs, hstays t u' j hact' ht⟩
    · exact .inr ⟨hreturns s u i hact hs, hreturns t u' j hact' ht⟩
  case mix =>
    obtain rfl := Host.Outcome.next.inj ((step_of_mix hact).symm.trans hs)
    obtain rfl := Host.Outcome.next.inj ((step_of_mix hact').symm.trans ht)
    obtain ⟨hagree, hsample⟩ := h.finishTick i j
    exact ⟨State.agree_iff.1 hagree, s.mixSample, s.finishTick_out i, hsample ▸ t.finishTick_out j⟩

end Sys2Proof.Machine
end

/-! SUPPORT. DELAY (30_encoding.md R94): the parts it expands to, their ticks, and the bytes they assemble to. -/

section
namespace Sys2Proof.Machine

/-- The parts last the asked milliseconds: the long waits are the quotient, the last one is the remainder. -/
theorem delayParts_sum (ms : Nat) : ((delayParts ms).map BitVec.toNat).sum = ms := by
  have hdiv := Nat.div_add_mod ms 32767
  have hlt := Nat.mod_lt ms (show 0 < 32767 by decide)
  unfold delayParts
  split
  · simp only [List.append_nil, List.map_replicate, List.sum_replicate, smul_eq_mul]
    simp
    omega
  · simp only [List.map_append, List.map_replicate, List.sum_append, List.sum_replicate, smul_eq_mul, List.map_cons,
      List.map_nil, List.sum_singleton, BitVec.toNat_ofNat]
    omega

/-- Each floor loses at most 999 thousandths of a tick. -/
theorem waitToTicks_sum_bounds (c : Config) (ws : List (BitVec 15)) :
    (ws.map fun w => (waitToTicks c w).toNat).sum * 1000 ≤ (ws.map BitVec.toNat).sum * c.params.fsHz ∧
    (ws.map BitVec.toNat).sum * c.params.fsHz ≤
      (ws.map fun w => (waitToTicks c w).toNat).sum * 1000 + 999 * ws.length := by
  induction ws with
  | nil => simp
  | cons w ws ih =>
    obtain ⟨hlow, hhigh⟩ := ih
    have hsplit := Nat.add_mul w.toNat (ws.map BitVec.toNat).sum c.params.fsHz
    rw [List.map_cons, List.map_cons, List.sum_cons, List.sum_cons, List.length_cons, hsplit, waitToTicks_toNat]
    omega

/-- The first part of a DELAY is a longest wait. -/
theorem delayParts_eq_cons {ms : Nat} (h : 32767 < ms) : ∃ w tail, delayParts ms = w :: tail := by
  obtain ⟨q, hq⟩ := Nat.exists_eq_succ_of_ne_zero (Nat.div_pos h.le (by decide)).ne'
  exact ⟨_, _, by rw [delayParts, hq, List.replicate_succ, List.cons_append]⟩

/-- Settles O55: the sum of the floors against the floor of the sum. -/
theorem delayLosesLessThanATickPerPart : Obligations.DelayLosesLessThanATickPerPart := by
  unfold Obligations.DelayLosesLessThanATickPerPart
  intro c ms hms
  obtain ⟨hlow, hhigh⟩ := waitToTicks_sum_bounds c (delayParts ms)
  obtain ⟨w, tail, hparts⟩ := delayParts_eq_cons hms
  have hlen : 1 ≤ (delayParts ms).length := by simp [hparts]
  rw [delayParts_sum] at hlow hhigh
  exact ⟨delayParts_sum ms, by omega, by omega⟩

theorem encode_waits_length (ws : List (BitVec 15)) :
    (ws.flatMap fun w => encode (.wait w)).length = 2 * ws.length := by
  induction ws with
  | nil => rfl
  | cons w ws ih =>
    rw [List.flatMap_cons, List.length_append, ih, List.length_cons]
    simp only [encode, List.length_cons, List.length_nil]
    omega

/-- Settles O56: the bytes begin with the encoding of the first part. -/
theorem delayAssemblesToItsWaits : Obligations.DelayAssemblesToItsWaits := by
  unfold Obligations.DelayAssemblesToItsWaits
  intro c vol ms rest hms
  obtain ⟨w, tail, hparts⟩ := delayParts_eq_cons hms
  refine ⟨_, if_pos hms, encode_waits_length _, w, tail, hparts, ?_⟩
  rw [hparts, List.flatMap_cons, List.append_assoc]
  exact decode_encode_append _ rfl

end Sys2Proof.Machine
end
